-- ==== Sys2Proof/Word.lean ====
section
/-! DEFINITION. The word types of the ports and requests (spec/30_encoding.md R71, R75; spec/00_scope.md R10: bit 0
is the least significant bit and every value is unsigned). -/

namespace Sys2Proof

/-- A request word: 10 bits, the widest format (F_BREQ, R75). A narrower format stands in the low bits and the bits
above its width are 0. -/
abbrev Word := BitVec 10

/-- The 4-bit raw input word `raw_in[3:0] = a d v l` of F_TICK (R71) and F_BOOT (R73). -/
abbrev RawIn := BitVec 4

/-- An 8-bit register: a debounce counter, a blink byte, `parity`, `elapsed` (R8). -/
abbrev Byte := BitVec 8

end Sys2Proof
end

