-- ==== Sys2Proof/Syntax.lean ====
section
/-! DEFINITION. The names the spec gives its channels, selections, lines and causes, and the operations of the block:
one constructor of `Instr` for each row of spec/opcode_table.json (spec/30_encoding.md R84). -/

namespace Sys2Proof

/-- A switch channel and the blink channel of the same index (R14, R78). -/
inductive Channel where
  | lights
  | valet
  | doors
  | accessory
deriving DecidableEq, Repr, Inhabited

/-- A selection that owns a selection LED and an accessory relay: Pick1..Pick3 (R77). -/
inductive Pick where
  | pick1
  | pick2
  | pick3
deriving DecidableEq, Repr

/-- A logical output line (R32, R79). The reserved ids 11..15 have no line, so none can be emitted (R85). -/
inductive OutLine where
  /-- `IND(ch)`, ids 0..3. -/
  | ind (ch : Channel)
  /-- `SEL_LED(k)`, ids 4..6. -/
  | selLed (k : Pick)
  /-- `RELAY_LIGHTS`, id 7. -/
  | relayLights
  /-- `RELAY_ACC(k)`, ids 8..10. -/
  | relayAcc (k : Pick)
deriving DecidableEq, Repr

/-- A beep cause (R80). The reserved codes 11..15 have no cause, so none can be emitted (R85). -/
inductive BeepCause where
  | lightsOff
  | lightsOn
  | valet
  | doorsRise
  | doorsFall
  | accCancel
  /-- `ACC_SELECT_0 + sel`, codes 6..9. -/
  | accSelect (sel : BitVec 2)
  | accCommit
deriving DecidableEq, Repr

/-- A pattern of the beep collaborator (R80): default, triple-short, medium, long, very-short. -/
inductive BeepPattern where
  | defaultTone
  | tripleShort
  | medium
  | long
  | veryShort
deriving DecidableEq, Repr, Inhabited

/-- The formats of R71, R73, R75 and R83. A word does not say its format: the port or the phase that forms the word
does (R70, R82). G_BC is formed once for each channel (R174), so the format names the channel it is formed for. -/
inductive Format where
  | fTick
  | fBoot
  | fBreq
  | gDeb
  | gLt
  | gVt
  | gDt
  | gAe
  | gAr
  | gAc
  | gPs
  | gBc (ch : Channel)
deriving DecidableEq, Repr

/-- A word together with the format it is read in. -/
structure Request where
  format : Format
  word : Word
deriving DecidableEq, Repr

/-- The operations of the block, in the order of spec/opcode_table.json. The don't-care bits of a pattern (`BOOT_*`,
`BLINK_IDLE`, `BLINK_FAST_STEP`) are operands, so that no bit of an encoding is dropped. -/
inductive Instr where
  /-- `TICK`, F_TICK `advl` (R200). -/
  | tick (raw : RawIn)
  /-- `BOOT_MAIN`, F_BOOT `ad1l` (R202). -/
  | bootMain (raw : RawIn)
  /-- `BOOT_DEMO`, F_BOOT `ad0l` (R203). -/
  | bootDemo (raw : RawIn)
  /-- `SET_FAST_BLINK`, F_BREQ `cc0rrrrrr0` (R170). `n` is a natural number, since R170 says what a request above 63
  does, which no word can encode. -/
  | setFastBlink (ch : Channel) (n : Nat)
  /-- `SET_SLOW_BLINK`, F_BREQ `cc1rrrrrr0` (R171). -/
  | setSlowBlink (ch : Channel) (n : Nat)
  /-- `DEB_PRESS`, G_DEB `cc1` (R101). -/
  | debPress (ch : Channel)
  /-- `DEB_RELEASE`, G_DEB `cc0` (R102). -/
  | debRelease (ch : Channel)
  /-- `ACC_SELECT`, G_AE `100` (R121). -/
  | accSelect
  /-- `ACC_CANCEL`, G_AE `101` (R122). -/
  | accCancel
  /-- `ACC_EDGE_LOCKED`, G_AE `110` (R123). -/
  | accEdgeLocked
  /-- `ACC_REARM`, G_AR `010` (R124). -/
  | accRearm
  /-- `ACC_COMMIT`, G_AC `0011` (R125). -/
  | accCommit
  /-- `LIGHTS_ON`, G_LT `10` (R150). -/
  | lightsOn
  /-- `LIGHTS_OFF`, G_LT `11` (R151). -/
  | lightsOff
  /-- `VALET_PULSE`, G_VT `1` (R152). -/
  | valetPulse
  /-- `DOORS_RISE`, G_DT `10` (R153). -/
  | doorsRise
  /-- `DOORS_FALL`, G_DT `01` (R154). -/
  | doorsFall
  /-- `PACE_ADVANCE`, G_PS `0` (R173). -/
  | paceAdvance
  /-- `PACE_ROLLOVER`, G_PS `1` (R174). -/
  | paceRollover
  /-- `BLINK_IDLE`, G_BC `0sq` (R180). -/
  | blinkIdle (ch : Channel) (slow parity : Bool)
  /-- `BLINK_FAST_STEP`, G_BC `10q` (R177). -/
  | blinkFastStep (ch : Channel) (parity : Bool)
  /-- `BLINK_SLOW_STEP`, G_BC `110` (R178). -/
  | blinkSlowStep (ch : Channel)
  /-- `BLINK_SLOW_SKIP`, G_BC `111` (R179). -/
  | blinkSlowSkip (ch : Channel)
deriving DecidableEq, Repr

/-- Why a word of a format is no operation and no "no operation" row either (R85). -/
inductive RejectReason where
  /-- A bit above the format's width is set: not a word of the format (R71 to R83). -/
  | tooWide
  /-- F_BREQ with bit 0 = 1: cannot be produced (R85). -/
  | oddRequest
  /-- G_AE `111` or G_DT `11`: unreachable (R85). -/
  | unreachableVector
deriving DecidableEq, Repr

/-- What a word of a format stands for (R84): an operation, no operation in its phase, or a word the format rejects. -/
inductive Decoded where
  | op (i : Instr)
  | nothing
  | rejected (why : RejectReason)
deriving DecidableEq, Repr

/-- A line of the stimulus language (R87) or one of its pseudo-instructions (R88). `EXPECT` has no effect on the block
(R88) and is no line of a stimulus here. -/
inductive Stim where
  /-- `RESET word`: reset, then the boot sample (F_BOOT). -/
  | reset (w : RawIn)
  /-- `TICK word * n`. -/
  | tick (w : RawIn) (n : Nat)
  /-- `BOOT`, which is `RESET 0b0010`. -/
  | boot
  /-- `IDLE n`, which is `TICK 0b0010 * n`. -/
  | idle (n : Nat)
  /-- `PRESS <set> n`: the set's channels pressed for `n` ticks. -/
  | press (lights valet doors accessory : Bool) (n : Nat)
deriving DecidableEq, Repr

end Sys2Proof
end

