-- ==== Sys2Proof/Config.lean ====
section
/-! DEFINITION. The configuration: what is fixed for a run and is not state (spec/10_state.md R39), the open
parameters of the spec as constants with no body, and the environment's free choices. -/

namespace Sys2Proof

/-- The block's parameters (spec/00_scope.md R6, R7, R8): the default of each numeric constant is the document's value,
and the two pace parameters are open, so they have no default. A repeat constant is 6 bits wide because no larger
repeats value can be encoded (spec/30_encoding.md R75, R85). -/
structure Params where
  /-- `THRESHOLD`: press confirmation. -/
  threshold : Byte := 160
  /-- `RELEASE_LEVEL`: `held` clears below this. -/
  releaseLevel : Byte := 10
  /-- `COMMIT_LEVEL`: auto-commit when `elapsed` exceeds this. -/
  commitLevel : Byte := 10
  /-- `N_CH`: how many of the channels L, V, D, A the block polls and steps. -/
  nCh : Nat := 4
  /-- `N_SEL`: how many of the selections 1, 2, 3 have an LED and a relay. -/
  nSel : Nat := 3
  /-- `LIGHTS_ON_FAST`. -/
  lightsOnFast : BitVec 6 := 4
  /-- `LIGHTS_OFF_SLOW`. -/
  lightsOffSlow : BitVec 6 := 2
  /-- `VALET_SLOW`. -/
  valetSlow : BitVec 6 := 10
  /-- `DOORS_RISE_FAST`. -/
  doorsRiseFast : BitVec 6 := 8
  /-- `DOORS_FALL_SLOW`. -/
  doorsFallSlow : BitVec 6 := 3
  /-- `SLOW_FLAG`: the bit of a blink byte that marks the slow rate. -/
  slowFlag : Byte := 0x80
  /-- `PACE_LIMIT`, open (R7). -/
  paceLimit : Nat
  /-- `PACE_BITS`, open (R8): the width of the register `pace`. -/
  paceBits : Nat
deriving DecidableEq, Repr

/-- The well-formedness condition of a configuration, `PACE_LIMIT <= 2^PACE_BITS - 2` (R8). -/
def Params.wellFormed (p : Params) : Bool :=
  decide (p.paceLimit + 2 ≤ 2 ^ p.paceBits)

/-- A configuration: parameters that meet the condition of R8. The machine takes no other, so parameters that fail it
run nothing. -/
structure Config extends Params where
  /-- The condition holds. -/
  accepted : toParams.wellFormed = true
deriving DecidableEq, Repr

/-- Parameters that fail the condition are refused (R8). -/
def Params.accept (p : Params) : Option Config :=
  if h : p.wellFormed = true then some ⟨p, h⟩ else none

/-- The hardware's `PACE_LIMIT`, which the source does not give (R7, D11, N2; log 1): a free value. -/
opaque Config.openPaceLimit : Nat

/-- How many bits the hardware's `pace` register has beyond the least width R8 allows (log 2): a free value. -/
opaque Config.openPaceSurplus : Nat

/-- The least width of `pace` that R8 allows for a limit. -/
def Config.leastPaceBits (limit : Nat) : Nat := Nat.log2 (limit + 1) + 1

/-- The least width and any wider one meet the condition of R8. -/
theorem Config.paceBits_fit (limit surplus : Nat) : limit + 2 ≤ 2 ^ (Config.leastPaceBits limit + surplus) := by
  have h := Nat.lt_log2_self (n := limit + 1)
  have := Nat.pow_le_pow_right (n := 2) (by decide) (Nat.le_add_right (Config.leastPaceBits limit) surplus)
  rw [Config.leastPaceBits] at *
  omega

/-- The document's constants at a `PACE_LIMIT`, with a `pace` register of the least width and `surplus` bits more. -/
def Config.atPace (limit surplus : Nat) : Config where
  paceLimit := limit
  paceBits := Config.leastPaceBits limit + surplus
  accepted := decide_eq_true (Config.paceBits_fit limit surplus)

/-- The configuration of this hardware: the document's constants, and the open pace parameters: any limit, and any
width that R8 accepts for it (log 2). -/
def Config.hardware : Config := Config.atPace Config.openPaceLimit Config.openPaceSurplus

/-- The document's constants at a chosen `PACE_LIMIT`, for a reading that takes it as an argument (R7). -/
def Config.atPaceLimit (limit : Nat) : Config := Config.atPace limit 0

/-- The one pattern id of the three "cancel" causes, open (R80, D16; log 3). -/
opaque Config.cancelPattern : BeepPattern

/-- The pattern id of `LIGHTS_ON`, open (R80; log 3). -/
opaque Config.lightsOnPattern : BeepPattern

/-- The pattern id of `ACC_COMMIT`, open (R80; log 3). -/
opaque Config.commitPattern : BeepPattern

/-- An open arrangement of the five pattern ids: its first four are those of the `ACC_SELECT_*` causes (R80; log 3). -/
opaque Config.selectArrangement : Equiv.Perm BeepPattern

/-- The pattern id that stands for a selection before the open arrangement is applied. -/
def Config.selectSlot (sel : BitVec 2) : BeepPattern :=
  if sel = 0 then .defaultTone else if sel = 1 then .tripleShort else if sel = 2 then .medium else .long

/-- `BEEP_PATTERN : cause -> pattern id` (R80), open under the three constraints R80 gives (log 3). -/
def Config.beepPattern : BeepCause → BeepPattern
  | .lightsOff => Config.cancelPattern
  | .lightsOn => Config.lightsOnPattern
  | .valet => .medium
  | .doorsRise => .long
  | .doorsFall => Config.cancelPattern
  | .accCancel => Config.cancelPattern
  | .accSelect sel => Config.selectArrangement (Config.selectSlot sel)
  | .accCommit => Config.commitPattern

/-- `PIN_MAP`: the physical pin of a logical line, open; two lines may share a pin (R9, R79, D15; log 4). -/
opaque Config.pinMap : OutLine → Nat

/-- The environment's `n`-th free choice at the ports (spec/44_tick.md R206; log 5): a boot (`true`) or a tick, and
its 4-bit word. -/
opaque Config.envChoice : Nat → Bool × RawIn

end Sys2Proof
end

