-- ==== Sys2Proof/WellFormed.lean ====
section
/-! DEFINITION. Well-formed operations, stimulus lines and beep maps. A configuration is well-formed by its type
(`Params.wellFormed`, `Params.accept` in Sys2Proof/Config.lean). -/

namespace Sys2Proof

/-- An operation that some word of its format encodes (spec/30_encoding.md R75, R84, R85): repeats fit 6 bits, and a
boot operation's sample has the valet bit of its pattern. -/
def Instr.wellFormed : Instr → Bool
  | .tick _ => true
  | .bootMain raw => raw.getLsbD 1
  | .bootDemo raw => !raw.getLsbD 1
  | .setFastBlink _ n => decide (n ≤ 63)
  | .setSlowBlink _ n => decide (n ≤ 63)
  | .debPress _ => true
  | .debRelease _ => true
  | .accSelect => true
  | .accCancel => true
  | .accEdgeLocked => true
  | .accRearm => true
  | .accCommit => true
  | .lightsOn => true
  | .lightsOff => true
  | .valetPulse => true
  | .doorsRise => true
  | .doorsFall => true
  | .paceAdvance => true
  | .paceRollover => true
  | .blinkIdle _ _ _ => true
  | .blinkFastStep _ _ => true
  | .blinkSlowStep _ => true
  | .blinkSlowSkip _ => true

/-- A repeat count of a stimulus line is at least 1 (R87: `N := decimal integer >= 1`). -/
def Stim.wellFormed : Stim → Bool
  | .reset _ => true
  | .tick _ n => decide (1 ≤ n)
  | .boot => true
  | .idle n => decide (1 ≤ n)
  | .press _ _ _ _ n => decide (1 ≤ n)

/-- The three constraints of R80 on a beep map: the names that stand in both lists, one id for the three "cancel"
causes, and distinct ids for the four selections (log 3). -/
def BeepCause.mapWellFormed (f : BeepCause → BeepPattern) : Bool :=
  decide (f .valet = .medium) && decide (f .doorsRise = .long) &&
  decide (f .lightsOff = f .doorsFall) && decide (f .doorsFall = f .accCancel) &&
  decide ([f (.accSelect 0), f (.accSelect 1), f (.accSelect 2), f (.accSelect 3)].Nodup)

end Sys2Proof
end

