-- ==== Sys2Proof/Decode.lean ====
section
/-! DEFINITION. The codes of channels, lines and causes, the decoder of every format, the encoder, the opcode table as
rows, and the stimulus assembler (spec/30_encoding.md). -/

namespace Sys2Proof

/-! ### Codes (R77, R78, R79, R80) -/

/-- The 2-bit channel index (R78). -/
def Channel.index : Channel → BitVec 2
  | .lights => 0
  | .valet => 1
  | .doors => 2
  | .accessory => 3

/-- The channel of a 2-bit index (R78). -/
def Channel.ofIndex (b : BitVec 2) : Channel :=
  if b = 0 then .lights else if b = 1 then .valet else if b = 2 then .doors else .accessory

/-- The four channels in the order L, V, D, A (R14). -/
def Channel.all : List Channel := [.lights, .valet, .doors, .accessory]

/-- The `sel` value of a pick (R77). -/
def Pick.code : Pick → BitVec 2
  | .pick1 => 1
  | .pick2 => 2
  | .pick3 => 3

/-- The pick of a `sel` value; Idle (0) owns no LED and no relay (R77). -/
def Pick.ofSel (sel : BitVec 2) : Option Pick :=
  if sel = 1 then some .pick1 else if sel = 2 then some .pick2 else if sel = 3 then some .pick3 else none

/-- The three picks in the order 1, 2, 3 (R121). -/
def Pick.all : List Pick := [.pick1, .pick2, .pick3]

/-- The 4-bit line id: `IND(ch)` is `ch`, `SEL_LED(k)` is `3 + k`, `RELAY_LIGHTS` is 7, `RELAY_ACC(k)` is `7 + k`
(R79). -/
def OutLine.id : OutLine → BitVec 4
  | .ind ch => ch.index.setWidth 4
  | .selLed k => 3 + k.code.setWidth 4
  | .relayLights => 7
  | .relayAcc k => 7 + k.code.setWidth 4

/-- The 4-bit beep cause code (R80). -/
def BeepCause.code : BeepCause → BitVec 4
  | .lightsOff => 0
  | .lightsOn => 1
  | .valet => 2
  | .doorsRise => 3
  | .doorsFall => 4
  | .accCancel => 5
  | .accSelect sel => 6 + sel.setWidth 4
  | .accCommit => 10

/-- The pattern id, in the document's list order (R80). -/
def BeepPattern.id : BeepPattern → BitVec 3
  | .defaultTone => 0
  | .tripleShort => 1
  | .medium => 2
  | .long => 3
  | .veryShort => 4

/-! ### The decoder (R71 to R86) -/

/-- The fixed width of a format (R71, R73, R75, R83, R86). -/
def Format.width : Format → Nat
  | .fTick => 4
  | .fBoot => 4
  | .fBreq => 10
  | .gDeb => 3
  | .gLt => 2
  | .gVt => 1
  | .gDt => 2
  | .gAe => 3
  | .gAr => 3
  | .gAc => 4
  | .gPs => 1
  | .gBc _ => 3

/-- What the word `w` of the format `f` stands for, the bits above the format's width being 0 (R84, R85). -/
def decodeFits (f : Format) (w : Word) : Decoded :=
  match f with
  | .fTick => .op (.tick (w.setWidth 4))
  | .fBoot =>
    if w.getLsbD 1 then .op (.bootMain (w.setWidth 4)) else .op (.bootDemo (w.setWidth 4))
  | .fBreq =>
    if w.getLsbD 0 then .rejected .oddRequest
    else if w.getLsbD 7 then
      .op (.setSlowBlink (Channel.ofIndex (w.extractLsb' 8 2)) (w.extractLsb' 1 6).toNat)
    else .op (.setFastBlink (Channel.ofIndex (w.extractLsb' 8 2)) (w.extractLsb' 1 6).toNat)
  | .gDeb =>
    if w.getLsbD 0 then .op (.debPress (Channel.ofIndex (w.extractLsb' 1 2)))
    else .op (.debRelease (Channel.ofIndex (w.extractLsb' 1 2)))
  | .gLt => if w = 0b10 then .op .lightsOn else if w = 0b11 then .op .lightsOff else .nothing
  | .gVt => if w = 0b1 then .op .valetPulse else .nothing
  | .gDt =>
    if w = 0b10 then .op .doorsRise
    else if w = 0b01 then .op .doorsFall
    else if w = 0b11 then .rejected .unreachableVector
    else .nothing
  | .gAe =>
    if w = 0b100 then .op .accSelect
    else if w = 0b101 then .op .accCancel
    else if w = 0b110 then .op .accEdgeLocked
    else if w = 0b111 then .rejected .unreachableVector
    else .nothing
  | .gAr => if w = 0b010 then .op .accRearm else .nothing
  | .gAc => if w = 0b0011 then .op .accCommit else .nothing
  | .gPs => if w = 0b1 then .op .paceRollover else .op .paceAdvance
  | .gBc ch =>
    if w.getLsbD 2 then
      if w.getLsbD 1 then
        if w.getLsbD 0 then .op (.blinkSlowSkip ch) else .op (.blinkSlowStep ch)
      else .op (.blinkFastStep ch (w.getLsbD 0))
    else .op (.blinkIdle ch (w.getLsbD 1) (w.getLsbD 0))

/-- The decoder: total on every word of every format. -/
def decode (f : Format) (w : Word) : Decoded :=
  if w.toNat < 2 ^ f.width then decodeFits f w else .rejected .tooWide

/-- The operation of a decoded word, if it is one. -/
def Decoded.instr? : Decoded → Option Instr
  | .op i => some i
  | .nothing => none
  | .rejected _ => none

/-- The decoded word is a boot operation (R202, R203). -/
def Decoded.isBoot : Decoded → Bool
  | .op (.bootMain _) => true
  | .op (.bootDemo _) => true
  | _ => false

/-! ### The encoder -/

/-- The blink request word `{ch[1:0], s, r[5:0], 0}` (R75). -/
def breqWord (ch : Channel) (slow : Bool) (r : BitVec 6) : Word :=
  ch.index ++ BitVec.ofBool slow ++ r ++ (0 : BitVec 1)

/-- The word of a one-bit, two-bit or three-bit field list, most significant bit first (R83). -/
def wordOfBits : List Bool → Word
  | [] => 0
  | b :: bs => BitVec.ofNat 10 (b.toNat * 2 ^ bs.length) + wordOfBits bs

/-- The format and the word of an operation, written from the patterns of R84. A repeats value above 63 has no word
(R85); its low 6 bits stand there and `Instr.wellFormed` refuses it. -/
def encode : Instr → Request
  | .tick raw => ⟨.fTick, raw.setWidth 10⟩
  | .bootMain raw => ⟨.fBoot, raw.setWidth 10⟩
  | .bootDemo raw => ⟨.fBoot, raw.setWidth 10⟩
  | .setFastBlink ch n => ⟨.fBreq, breqWord ch false (BitVec.ofNat 6 n)⟩
  | .setSlowBlink ch n => ⟨.fBreq, breqWord ch true (BitVec.ofNat 6 n)⟩
  | .debPress ch => ⟨.gDeb, (ch.index ++ (1 : BitVec 1)).setWidth 10⟩
  | .debRelease ch => ⟨.gDeb, (ch.index ++ (0 : BitVec 1)).setWidth 10⟩
  | .accSelect => ⟨.gAe, 0b100⟩
  | .accCancel => ⟨.gAe, 0b101⟩
  | .accEdgeLocked => ⟨.gAe, 0b110⟩
  | .accRearm => ⟨.gAr, 0b010⟩
  | .accCommit => ⟨.gAc, 0b0011⟩
  | .lightsOn => ⟨.gLt, 0b10⟩
  | .lightsOff => ⟨.gLt, 0b11⟩
  | .valetPulse => ⟨.gVt, 0b1⟩
  | .doorsRise => ⟨.gDt, 0b10⟩
  | .doorsFall => ⟨.gDt, 0b01⟩
  | .paceAdvance => ⟨.gPs, 0b0⟩
  | .paceRollover => ⟨.gPs, 0b1⟩
  | .blinkIdle ch slow parity => ⟨.gBc ch, wordOfBits [false, slow, parity]⟩
  | .blinkFastStep ch parity => ⟨.gBc ch, wordOfBits [true, false, parity]⟩
  | .blinkSlowStep ch => ⟨.gBc ch, 0b110⟩
  | .blinkSlowSkip ch => ⟨.gBc ch, 0b111⟩

/-! ### The opcode table as rows (spec/opcode_table.json) -/

/-- One row of spec/opcode_table.json: its mnemonic, its format, and the mask and the value of its fixed bits. -/
structure Row where
  mnemonic : String
  format : Format
  mask : Word
  value : Word
deriving DecidableEq, Repr

/-- The 23 rows, in the table's order. A G_BC word does not name its channel; the rows stand at channel L (log 8). -/
def opcodeRows : List Row := [
  ⟨"TICK", .fTick, 0x0, 0x0⟩,
  ⟨"BOOT_MAIN", .fBoot, 0x2, 0x2⟩,
  ⟨"BOOT_DEMO", .fBoot, 0x2, 0x0⟩,
  ⟨"SET_FAST_BLINK", .fBreq, 0x81, 0x0⟩,
  ⟨"SET_SLOW_BLINK", .fBreq, 0x81, 0x80⟩,
  ⟨"DEB_PRESS", .gDeb, 0x1, 0x1⟩,
  ⟨"DEB_RELEASE", .gDeb, 0x1, 0x0⟩,
  ⟨"ACC_SELECT", .gAe, 0x7, 0x4⟩,
  ⟨"ACC_CANCEL", .gAe, 0x7, 0x5⟩,
  ⟨"ACC_EDGE_LOCKED", .gAe, 0x7, 0x6⟩,
  ⟨"ACC_REARM", .gAr, 0x7, 0x2⟩,
  ⟨"ACC_COMMIT", .gAc, 0xF, 0x3⟩,
  ⟨"LIGHTS_ON", .gLt, 0x3, 0x2⟩,
  ⟨"LIGHTS_OFF", .gLt, 0x3, 0x3⟩,
  ⟨"VALET_PULSE", .gVt, 0x1, 0x1⟩,
  ⟨"DOORS_RISE", .gDt, 0x3, 0x2⟩,
  ⟨"DOORS_FALL", .gDt, 0x3, 0x1⟩,
  ⟨"PACE_ADVANCE", .gPs, 0x1, 0x0⟩,
  ⟨"PACE_ROLLOVER", .gPs, 0x1, 0x1⟩,
  ⟨"BLINK_IDLE", .gBc .lights, 0x4, 0x0⟩,
  ⟨"BLINK_FAST_STEP", .gBc .lights, 0x6, 0x4⟩,
  ⟨"BLINK_SLOW_STEP", .gBc .lights, 0x7, 0x6⟩,
  ⟨"BLINK_SLOW_SKIP", .gBc .lights, 0x7, 0x7⟩]

/-- The format a row of the table stands under: G_BC at channel L, whatever the channel (log 8). -/
def Format.base : Format → Format
  | .fTick => .fTick
  | .fBoot => .fBoot
  | .fBreq => .fBreq
  | .gDeb => .gDeb
  | .gLt => .gLt
  | .gVt => .gVt
  | .gDt => .gDt
  | .gAe => .gAe
  | .gAr => .gAr
  | .gAc => .gAc
  | .gPs => .gPs
  | .gBc _ => .gBc .lights

/-- The row's mnemonic of an operation (R84). -/
def Instr.mnemonic : Instr → String
  | .tick _ => "TICK"
  | .bootMain _ => "BOOT_MAIN"
  | .bootDemo _ => "BOOT_DEMO"
  | .setFastBlink _ _ => "SET_FAST_BLINK"
  | .setSlowBlink _ _ => "SET_SLOW_BLINK"
  | .debPress _ => "DEB_PRESS"
  | .debRelease _ => "DEB_RELEASE"
  | .accSelect => "ACC_SELECT"
  | .accCancel => "ACC_CANCEL"
  | .accEdgeLocked => "ACC_EDGE_LOCKED"
  | .accRearm => "ACC_REARM"
  | .accCommit => "ACC_COMMIT"
  | .lightsOn => "LIGHTS_ON"
  | .lightsOff => "LIGHTS_OFF"
  | .valetPulse => "VALET_PULSE"
  | .doorsRise => "DOORS_RISE"
  | .doorsFall => "DOORS_FALL"
  | .paceAdvance => "PACE_ADVANCE"
  | .paceRollover => "PACE_ROLLOVER"
  | .blinkIdle _ _ _ => "BLINK_IDLE"
  | .blinkFastStep _ _ => "BLINK_FAST_STEP"
  | .blinkSlowStep _ => "BLINK_SLOW_STEP"
  | .blinkSlowSkip _ => "BLINK_SLOW_SKIP"

/-- The word `w` is a word of the row's format and has the row's fixed bits. -/
def Row.accepts (r : Row) (w : Word) : Bool :=
  decide (w.toNat < 2 ^ r.format.width) && decide (w &&& r.mask = r.value)

/-- How many bits a row fixes. -/
def Row.fixedBits (r : Row) : Nat :=
  (List.range 10).countP fun k => r.mask.getLsbD k

/-- A row of the asked length: `nbits` is the row's width, or its width in whole bytes. -/
def Row.hasLength (r : Row) (nbits : Nat) : Bool :=
  r.format.width == nbits || 8 * ((r.format.width + 7) / 8) == nbits

/-- The better of two rows: the one that fixes more bits, the earlier one on a tie (log 8). -/
def Row.better (best : Option Row) (r : Row) : Option Row :=
  match best with
  | none => some r
  | some b => if b.fixedBits < r.fixedBits then some r else some b

/-- The request that a bare word of `nbits` bits is read as. The table's words do not say their format (R70), so the
row that fixes the most bits among those that accept the word is taken (log 8). -/
def tableRequest (nbits w : Nat) : Option Request :=
  if w < 2 ^ 10 then
    ((opcodeRows.filter fun r => r.hasLength nbits && r.accepts (BitVec.ofNat 10 w)).foldl Row.better none).map
      fun r => ⟨r.format, BitVec.ofNat 10 w⟩
  else none

/-- The instruction the decoder reads from a bare table word (log 8). -/
def decodeTableWord (nbits w : Nat) : Option Instr :=
  (tableRequest nbits w).bind fun r => (decode r.format r.word).instr?

/-! ### The stimulus assembler (R87, R88) -/

/-- The raw word of `PRESS <set>`: `0b0010` with bit 0 set for L, bit 1 cleared for V, bit 2 set for D and bit 3 set
for A (R88). -/
def pressWord (lights valet doors accessory : Bool) : RawIn :=
  BitVec.ofBool accessory ++ BitVec.ofBool doors ++ BitVec.ofBool (!valet) ++ BitVec.ofBool lights

/-- A boot request (F_BOOT). -/
def bootRequest (w : RawIn) : Request := ⟨.fBoot, w.setWidth 10⟩

/-- A tick request (F_TICK). -/
def tickRequest (w : RawIn) : Request := ⟨.fTick, w.setWidth 10⟩

/-- The requests of one stimulus line, in order (R87, R88). -/
def Stim.assemble : Stim → List Request
  | .reset w => [bootRequest w]
  | .tick w n => List.replicate n (tickRequest w)
  | .boot => [bootRequest 0b0010]
  | .idle n => List.replicate n (tickRequest 0b0010)
  | .press l v d a n => List.replicate n (tickRequest (pressWord l v d a))

/-- The requests of a stimulus. -/
def assemble (p : List Stim) : List Request :=
  p.flatMap Stim.assemble

end Sys2Proof
end

