-- ==== Sys2Proof/Machine/State.lean ====
section
/-! DEFINITION. The state of the block (spec/10_state.md), as plain data, its value after reset (R40), and the reasons a
step can stop. -/

namespace Sys2Proof.Machine

/-- The two operating modes (spec/60_exceptions.md R224). -/
inductive Mode where
  | main
  | demo
deriving DecidableEq, Repr

/-- The three reasons of `refuse` (spec/60_exceptions.md R221). -/
inductive RefuseReason where
  /-- Valet asserted at boot: the demonstration has no meaning in the spec. -/
  | demoMode
  /-- A tick that starts with `cphase = 3`. -/
  | reservedPhase
  /-- A blink request of more than 63 repeats. -/
  | blinkRepeatsRange
deriving DecidableEq, Repr

/-- One value for each channel L, V, D, A. -/
structure PerCh (α : Type) where
  lights : α
  valet : α
  doors : α
  accessory : α
deriving DecidableEq, Repr

/-- One value for each of the selections 1, 2, 3. -/
structure PerPick (α : Type) where
  pick1 : α
  pick2 : α
  pick3 : α
deriving DecidableEq, Repr

/-- The registered levels of the 11 logical output lines (R32): `true` is on or energized. -/
structure OutLevels where
  ind : PerCh Bool
  selLed : PerPick Bool
  relayLights : Bool
  relayAcc : PerPick Bool
deriving DecidableEq, Repr

/-- One `Out(line, level)` of a tick (spec/30_encoding.md R81). -/
structure OutWrite where
  line : OutLine
  level : Bool
deriving DecidableEq, Repr

/-- The block's state record (R20): exactly the fields of R22 to R34, by name. Its one open width is that of `pace`. -/
structure Block (paceBits : Nat) where
  /-- Debounce counters (R22). -/
  cnt : PerCh Byte
  /-- Debounced levels (R23). -/
  held : PerCh Bool
  /-- Edge memories (R24). -/
  oldHeld : PerCh Bool
  /-- Blink bytes, bit 7 slow flag and bits 6:0 count (R25, R74). -/
  blink : PerCh Byte
  /-- The pace counter, `PACE_BITS` bits (R26, R8; log 2). -/
  pace : BitVec paceBits
  /-- The parity counter (R27). -/
  parity : Byte
  /-- The selection (R28, R77). -/
  sel : BitVec 2
  /-- The confirm phase: 0 WAIT, 1 JUST, 2 LOCK, 3 reserved (R29, R76). -/
  cphase : BitVec 2
  /-- Rollovers since the last selection (R30). -/
  elapsed : Byte
  /-- The lights latch (R31). -/
  lightsOn : Bool
  /-- The output lines (R32). -/
  out : OutLevels
  /-- The operating mode (R33). -/
  mode : Mode
  /-- The mark of R34: set when it holds a reason (R221; log 6). -/
  refused : Option RefuseReason
deriving DecidableEq, Repr

/-- The output record of a tick (R81): the three values each tick produces fresh and carries to no other (R35). -/
structure TickRecord where
  /-- The tick's output writes, in order (R81). -/
  writes : List OutWrite
  /-- The tick's beep requests, in order (R80). -/
  beeps : List BeepCause
  /-- The tick's watchdog kick strobe (R204). -/
  wdtKick : Bool
deriving DecidableEq, Repr

/-- What an operation works on: the block's record, and the output record that the current tick is writing. -/
structure Panel (paceBits : Nat) extends Block paceBits, TickRecord
deriving DecidableEq, Repr

/-- The state of the machine: the block's record (R20), the output record of the last tick, kept for the observation of
spec/44_tick.md R205 (log 9), and the environment's side of the ports (log 5). -/
structure State extends Panel Config.hardware.paceBits where
  /-- Model's own: the requests the environment has queued (log 5). -/
  stimulus : List Request
  /-- Model's own: how many free choices of the environment have been taken (log 5). -/
  envCount : Nat
deriving DecidableEq, Repr

/-- The block raises no exception (spec/60_exceptions.md R220): there is no fault to raise. -/
inductive Fault where
deriving DecidableEq, Repr

/-- Why a step answers no next state. -/
inductive Refusal where
  /-- Raised only by `exec`'s arm of an instruction that has no meaning yet; safe. No arm does. -/
  | notModelled (mnemonic : String)
  /-- Raised by `TICK`, and by `step` for every operation but a boot, in a state that an earlier `refuse` has marked: a
  refused state has no further step (R34, R221); safe. -/
  | runRefused (why : RefuseReason)
  /-- Raised by `step` for a queued word that its format rejects (R85); safe. -/
  | undecodable (why : RejectReason)
deriving DecidableEq, Repr

/-- The outcome of a step of this machine. -/
abbrev Result := Host.Outcome State Fault Refusal

/-- One value at every channel. -/
def PerCh.fill {α : Type} (a : α) : PerCh α := ⟨a, a, a, a⟩

/-- One value at every pick. -/
def PerPick.fill {α : Type} (a : α) : PerPick α := ⟨a, a, a⟩

/-- The block's record after reset (R40, spec/70_reset_and_hazards.md R240): every field zero, mode MAIN. -/
def Block.reset (w : Nat) : Block w where
  cnt := PerCh.fill 0
  held := PerCh.fill false
  oldHeld := PerCh.fill false
  blink := PerCh.fill 0
  pace := 0
  parity := 0
  sel := 0
  cphase := 0
  elapsed := 0
  lightsOn := false
  out :=
    { ind := PerCh.fill false, selLed := PerPick.fill false, relayLights := false, relayAcc := PerPick.fill false }
  mode := .main
  refused := none

/-- The output record at the start of a tick (R35). -/
def TickRecord.empty : TickRecord where
  writes := []
  beeps := []
  wdtKick := false

/-- The block's record after reset, with the output record of no tick (log 9). -/
def Panel.reset (w : Nat) : Panel w where
  toBlock := Block.reset w
  toTickRecord := TickRecord.empty

/-- The machine right after reset (R40): the environment has queued nothing and chosen nothing (log 5). -/
def State.reset : State where
  toPanel := Panel.reset Config.hardware.paceBits
  stimulus := []
  envCount := 0

end Sys2Proof.Machine
end

