-- ==== Sys2Proof/Machine/Ops.lean ====
section
/-! DEFINITION. The named operations over the state: reads and writes by channel, pick and line, the primitives `Out`,
`Beep` and `refuse` of spec/00_scope.md R12, the start of a tick's output record, reset and the boot (the block's one
trap-like event, spec/60_exceptions.md R223), and the fetch of the next request. -/

namespace Sys2Proof

/-- The switch and blink channels, in the order L, V, D, A (R6 `N_CH`, R14). -/
def Config.channels (c : Config) : List Channel := Channel.all.take c.nCh

/-- The selections with an LED and a relay, in the order 1, 2, 3 (R6 `N_SEL`, R77). -/
def Config.picks (c : Config) : List Pick := Pick.all.take c.nSel

end Sys2Proof

namespace Sys2Proof.Machine

/-! ### Reads and writes by name -/

/-- `S.f[ch]` (R11). -/
def PerCh.get {α : Type} (p : PerCh α) : Channel → α
  | .lights => p.lights
  | .valet => p.valet
  | .doors => p.doors
  | .accessory => p.accessory

/-- `S.f[ch] <- a` (R11). -/
def PerCh.set {α : Type} (p : PerCh α) (ch : Channel) (a : α) : PerCh α :=
  match ch with
  | .lights => { p with lights := a }
  | .valet => { p with valet := a }
  | .doors => { p with doors := a }
  | .accessory => { p with accessory := a }

/-- The value of a pick. -/
def PerPick.get {α : Type} (p : PerPick α) : Pick → α
  | .pick1 => p.pick1
  | .pick2 => p.pick2
  | .pick3 => p.pick3

/-- The value of a pick, written. -/
def PerPick.set {α : Type} (p : PerPick α) (k : Pick) (a : α) : PerPick α :=
  match k with
  | .pick1 => { p with pick1 := a }
  | .pick2 => { p with pick2 := a }
  | .pick3 => { p with pick3 := a }

/-- `S.out[line]` (R32). -/
def OutLevels.get (o : OutLevels) : OutLine → Bool
  | .ind ch => o.ind.get ch
  | .selLed k => o.selLed.get k
  | .relayLights => o.relayLights
  | .relayAcc k => o.relayAcc.get k

/-- `S.out[line] <- level` (R32). -/
def OutLevels.set (o : OutLevels) (line : OutLine) (level : Bool) : OutLevels :=
  match line with
  | .ind ch => { o with ind := o.ind.set ch level }
  | .selLed k => { o with selLed := o.selLed.set k level }
  | .relayLights => { o with relayLights := level }
  | .relayAcc k => { o with relayAcc := o.relayAcc.set k level }

variable {w : Nat}

/-- `S.cnt[ch] <- n`. -/
def Panel.setCnt (s : Panel w) (ch : Channel) (n : Byte) : Panel w := { s with cnt := s.cnt.set ch n }

/-- `S.held[ch] <- b`. -/
def Panel.setHeld (s : Panel w) (ch : Channel) (b : Bool) : Panel w := { s with held := s.held.set ch b }

/-- `S.oldHeld[ch] <- b`. -/
def Panel.setOldHeld (s : Panel w) (ch : Channel) (b : Bool) : Panel w := { s with oldHeld := s.oldHeld.set ch b }

/-- `S.blink[ch] <- b`. -/
def Panel.setBlink (s : Panel w) (ch : Channel) (b : Byte) : Panel w := { s with blink := s.blink.set ch b }

/-- `S.sel <- v`. -/
def Panel.setSel (s : Panel w) (v : BitVec 2) : Panel w := { s with sel := v }

/-- `S.cphase <- v`. -/
def Panel.setCphase (s : Panel w) (v : BitVec 2) : Panel w := { s with cphase := v }

/-- `S.elapsed <- v`. -/
def Panel.setElapsed (s : Panel w) (v : Byte) : Panel w := { s with elapsed := v }

/-- `S.pace <- v`. -/
def Panel.setPace (s : Panel w) (v : BitVec w) : Panel w := { s with pace := v }

/-- `S.parity <- v`. -/
def Panel.setParity (s : Panel w) (v : Byte) : Panel w := { s with parity := v }

/-- `S.lightsOn <- b`. -/
def Panel.setLightsOn (s : Panel w) (b : Bool) : Panel w := { s with lightsOn := b }

/-! ### The confirm phases (R14, R76) -/

/-- `WAIT` (WaitingCommit). -/
def phaseWait : BitVec 2 := 0

/-- `JUST` (JustCommitted). -/
def phaseJust : BitVec 2 := 1

/-- `LOCK` (Locked). -/
def phaseLock : BitVec 2 := 2

/-- The reserved phase, which no rule writes. -/
def phaseReserved : BitVec 2 := 3

/-! ### The primitives of R12 -/

/-- `Out(line, level)`: writes the line's register and appends to the tick's write list, even when the level is
unchanged (R12, R81). -/
def Panel.emit (s : Panel w) (line : OutLine) (level : Bool) : Panel w :=
  { s with out := s.out.set line level, writes := s.writes ++ [⟨line, level⟩] }

/-- `Out(SEL_LED(k), level k)` for k in 1, 2, 3, in this order (R121, R122). -/
def Panel.emitLeds (s : Panel w) (c : Config) (level : Pick → Bool) : Panel w :=
  c.picks.foldl (fun t k => t.emit (.selLed k) (level k)) s

/-- `Out(RELAY_ACC(k), 0)` for k in 1, 2, 3, in this order (R122). -/
def Panel.releaseRelays (s : Panel w) (c : Config) : Panel w :=
  c.picks.foldl (fun t k => t.emit (.relayAcc k) false) s

/-- `Beep(cause)`: appends to the tick's beep list (R12, R80). -/
def Panel.beep (s : Panel w) (cause : BeepCause) : Panel w :=
  { s with beeps := s.beeps ++ [cause] }

/-- `refuse <Reason>`: marks the run refused and changes nothing else (R12, R34, R221; log 6). -/
def Panel.refuse (s : Panel w) (why : RefuseReason) : Panel w :=
  { s with refused := some why }

/-- The start of a tick's output record: both lists empty, the strobe 0 (R35, R200). -/
def Panel.beginTick (s : Panel w) : Panel w :=
  { s with toTickRecord := TickRecord.empty }

/-- Phase 7: `wdt_kick <- 1` (R200, R204). -/
def Panel.kick (s : Panel w) : Panel w :=
  { s with wdtKick := true }

/-! ### Reset and boot: the one trap-like event (R202, R203, R223, R240) -/

/-- `BOOT(raw_in)` (R202): a reset, then bit 1 of the boot sample selects the mode. Nothing of the state before it is
read (R223). Valet asserted (bit 1 = 0) enters DEMO, which is refused (R203). -/
def Panel.boot (w : Nat) (raw : RawIn) : Panel w :=
  if raw.getLsbD 1 then { Panel.reset w with mode := .main }
  else ({ Panel.reset w with mode := .demo }).refuse .demoMode

/-! ### Operations on the whole state -/

/-- The state with another panel: the environment's side of the ports stays. -/
abbrev State.withPanel (s : State) (p : Panel Config.hardware.paceBits) : State :=
  { s with toPanel := p }

/-- What an operation of the block answered, as the outcome of a state: the environment's side stays. -/
def State.lift (s : State) : Host.Outcome (Panel Config.hardware.paceBits) Fault Refusal → Result
  | .next p => .next (s.withPanel p)
  | .fault r => .fault r
  | .refused r => .refused r

/-- A boot of the whole state: the block's record and the output record are new, and the environment's side, which is
not the block's, stays (log 10). -/
def State.boot (s : State) (raw : RawIn) : State :=
  s.withPanel (Panel.boot Config.hardware.paceBits raw)

/-! ### The ports -/

/-- The environment's `n`-th free choice as a request (R206; log 5). -/
def envRequest (n : Nat) : Request :=
  if (Config.envChoice n).1 then bootRequest (Config.envChoice n).2 else tickRequest (Config.envChoice n).2

/-- The next request, and the state without it: the head of the queue, or the environment's free choice when nothing
is queued (R206; log 5). -/
def fetch (s : State) : Request × State :=
  match s.stimulus with
  | r :: rest => (r, { s with stimulus := rest })
  | [] => (envRequest s.envCount, { s with envCount := s.envCount + 1 })

/-- Why a request has no step: the state is marked refused and the request is not a boot (R34, R206, R221). -/
def haltedBy (s : State) (r : Request) : Option RefuseReason :=
  if (decode r.format r.word).isBoot then none else s.refused

/-- A stimulus queued behind what is queued already (R87; log 29). -/
def State.load (s : State) (p : List Stim) : State :=
  { s with stimulus := s.stimulus ++ assemble p }

end Sys2Proof.Machine
end

