-- ==== Sys2Proof/Machine/Operands.lean ====
section
/-! DEFINITION. The operand forms: the polarity-corrected inputs, the fields of a blink byte, and the bytes the blink
requests and steps write (spec/30_encoding.md R72, R74, R75; spec/43_blink.md R172). -/

namespace Sys2Proof.Machine

/-- `pressed[ch]`: valet is active-low, the other three active-high (R72). -/
def pressed (raw : RawIn) : Channel → Bool
  | .lights => raw.getLsbD 0
  | .valet => !raw.getLsbD 1
  | .doors => raw.getLsbD 2
  | .accessory => raw.getLsbD 3

/-- `count(ch) = blink[ch][6:0]` (R74, R172). -/
def blinkCount (b : Byte) : BitVec 7 := b.extractLsb' 0 7

/-- `slow(ch) = blink[ch][7]` (R74, R172), the bit of `SLOW_FLAG` (R6). -/
def blinkSlow (c : Config) (b : Byte) : Bool := decide (b &&& c.slowFlag ≠ 0)

/-- The blink byte a request writes: `2 × repeats`, with `SLOW_FLAG` for a slow request. At the document's `0x80` it is
`breq[7:0] = {s, r, 0}` (R75). -/
def requestByte (c : Config) (slow : Bool) (r : BitVec 6) : Byte :=
  let count := r.setWidth 8 <<< 1
  if slow then count ||| c.slowFlag else count

/-- `blink[ch][6:0] <- n`, bit 7 unchanged (R177, R178). -/
def withCount (b : Byte) (n : BitVec 7) : Byte :=
  b.extractLsb' 7 1 ++ n

variable {w : Nat}

/-- `Blink[ch] <- breq[7:0]`: the whole byte is replaced (R75, R182). -/
def Panel.putBlink (s : Panel w) (c : Config) (ch : Channel) (slow : Bool) (r : BitVec 6) : Panel w :=
  s.setBlink ch (requestByte c slow r)

/-- A blink request of `n` repeats, fast or slow: above 63 it cannot be encoded and is refused (R170, R171, R85). -/
def Panel.requestBlink (s : Panel w) (c : Config) (ch : Channel) (slow : Bool) (n : Nat) : Panel w :=
  if 63 < n then s.refuse .blinkRepeatsRange else s.putBlink c ch slow (BitVec.ofNat 6 n)

end Sys2Proof.Machine
end

