-- ==== Sys2Proof/Machine/Flags.lean ====
section
/-! DEFINITION. The edge predicates (spec/00_scope.md R13) and the guard vectors that select each phase's operation
(spec/30_encoding.md R82, R83). -/

namespace Sys2Proof.Machine

variable {w : Nat}

/-- `RISE(ch) = held && !oldHeld` (R13, R103). -/
def rise (s : Panel w) (ch : Channel) : Bool := s.held.get ch && !s.oldHeld.get ch

/-- `FALL(ch) = !held && oldHeld` (R13, R103). -/
def fall (s : Panel w) (ch : Channel) : Bool := !s.held.get ch && s.oldHeld.get ch

/-- The two bits of `cphase` in a guard vector, most significant first. -/
def phaseBits (p : BitVec 2) : List Bool := [p.getLsbD 1, p.getLsbD 0]

/-- G_DEB `c c p` of a channel. -/
def vecDeb (ch : Channel) (press : Bool) : Word :=
  wordOfBits [ch.index.getLsbD 1, ch.index.getLsbD 0, press]

/-- G_LT `r o`. -/
def vecLt (s : Panel w) : Word := wordOfBits [rise s .lights, s.lightsOn]

/-- G_VT `r`. -/
def vecVt (s : Panel w) : Word := wordOfBits [rise s .valet]

/-- G_DT `r f`. -/
def vecDt (s : Panel w) : Word := wordOfBits [rise s .doors, fall s .doors]

/-- G_AE `r p p`. -/
def vecAe (s : Panel w) : Word := wordOfBits (rise s .accessory :: phaseBits s.cphase)

/-- G_AR `h p p`. -/
def vecAr (s : Panel w) : Word := wordOfBits (s.held.get .accessory :: phaseBits s.cphase)

/-- `elapsed > COMMIT_LEVEL`, a strict unsigned comparison (R83, R125). -/
def commitDue (c : Config) (s : Panel w) : Bool := decide (c.commitLevel < s.elapsed)

/-- G_AC `p p z e`. -/
def vecAc (c : Config) (s : Panel w) : Word :=
  wordOfBits (phaseBits s.cphase ++ [decide (s.sel ≠ 0), commitDue c s])

/-- `pace + 1 > PACE_LIMIT`, exact (R83, R173, R174). -/
def rolloverDue (c : Config) (s : Panel c.paceBits) : Bool := decide (c.paceLimit < s.pace.toNat + 1)

/-- G_PS `o`. -/
def vecPs (c : Config) (s : Panel c.paceBits) : Word := wordOfBits [rolloverDue c s]

/-- G_BC `n s q` of a channel, with `parity` as it stands after the rollover's increment. -/
def vecBc (c : Config) (s : Panel w) (ch : Channel) : Word :=
  wordOfBits [decide (blinkCount (s.blink.get ch) ≠ 0), blinkSlow c (s.blink.get ch), s.parity.getLsbD 0]

end Sys2Proof.Machine
end

