-- ==== Sys2Proof/Machine/Accessory.lean ====
section
/-! DEFINITION. The Accessory Cycling State Machine (spec/41_accessory.md): phases 3, 4 and 5 of a tick. -/

namespace Sys2Proof.Machine

variable {w : Nat}

/-- `ACC_SELECT` (R121): exactly the new selection's LED is lit; the relays are not written. -/
def selectAction (c : Config) (s : Panel w) : Panel w :=
  let sel := s.sel + 1
  ((((s.setOldHeld .accessory true).setSel sel).emitLeds c (fun k => decide (k.code = sel))).beep
    (.accSelect sel)).setElapsed 0

/-- `ACC_CANCEL` (R122). -/
def cancelAction (c : Config) (s : Panel w) : Panel w :=
  (((((s.setOldHeld .accessory true).emitLeds c (fun _ => false)).beep .accCancel).setSel 0).releaseRelays c).setCphase
    phaseLock

/-- `ACC_EDGE_LOCKED` (R123): the edge is acknowledged and otherwise ignored. -/
def edgeLockedAction (s : Panel w) : Panel w := s.setOldHeld .accessory true

/-- `ACC_REARM` (R124), with the condition its pseudocode tests. -/
def rearmAction (s : Panel w) : Panel w :=
  if s.cphase = phaseLock ∧ s.held.get .accessory = false then s.setCphase phaseWait else s

/-- The effect of a commit on the selected LED and relay (R125): the LED's final level is 1; the flash is not modelled
(R127; log 16). -/
def commitOutputs (k : Pick) (s : Panel w) : Panel w :=
  (((s.setCphase phaseJust).emit (.selLed k) true).emit (.relayAcc k) true).beep .accCommit

/-- `ACC_COMMIT` (R125), with the condition its pseudocode tests. `sel ≠ 0` is that `sel` names a pick. -/
def commitAction (c : Config) (s : Panel w) : Panel w :=
  match Pick.ofSel s.sel with
  | some k => if s.cphase = phaseWait ∧ c.commitLevel < s.elapsed then commitOutputs k s else s
  | none => s

/-- Phase 3, selected by G_AE (R120, R200). -/
def edgePhase (c : Config) (s : Panel w) : Panel w :=
  match decode .gAe (vecAe s) with
  | .op .accSelect => selectAction c s
  | .op .accCancel => cancelAction c s
  | .op .accEdgeLocked => edgeLockedAction s
  | _ => s

/-- Phase 4, selected by G_AR (R124, R200). -/
def rearmPhase (s : Panel w) : Panel w :=
  match decode .gAr (vecAr s) with
  | .op .accRearm => rearmAction s
  | _ => s

/-- Phase 5, selected by G_AC (R125, R200). -/
def commitPhase (c : Config) (s : Panel w) : Panel w :=
  match decode .gAc (vecAc c s) with
  | .op .accCommit => commitAction c s
  | _ => s

/-- The meaning of `ACC_SELECT`. -/
def execAccSelect (s : State) : Result := .next (s.withPanel (selectAction Config.hardware s.toPanel))

/-- The meaning of `ACC_CANCEL`. -/
def execAccCancel (s : State) : Result := .next (s.withPanel (cancelAction Config.hardware s.toPanel))

/-- The meaning of `ACC_EDGE_LOCKED`. -/
def execAccEdgeLocked (s : State) : Result := .next (s.withPanel (edgeLockedAction s.toPanel))

/-- The meaning of `ACC_REARM`. -/
def execAccRearm (s : State) : Result := .next (s.withPanel (rearmAction s.toPanel))

/-- The meaning of `ACC_COMMIT`. -/
def execAccCommit (s : State) : Result := .next (s.withPanel (commitAction Config.hardware s.toPanel))

end Sys2Proof.Machine
end

