-- ==== Sys2Proof/Machine/Blink.lean ====
section
/-! DEFINITION. The Blink Scheduler (spec/43_blink.md): the requests, the pace counter and the channel steps, phase 6 of
a tick. -/

namespace Sys2Proof.Machine

variable {w : Nat}

/-- A channel step that acts: the level is on for an even count and off for an odd one, written even if unchanged, and
the count goes down by 1 with bit 7 kept (R177, R178). -/
def forceStep (ch : Channel) (s : Panel w) : Panel w :=
  let b := s.blink.get ch
  (s.emit (.ind ch) (!(blinkCount b).getLsbD 0)).setBlink ch (withCount b (blinkCount b - 1))

/-- `BLINK_FAST_STEP` (R177). -/
def fastStep (ch : Channel) (s : Panel w) : Panel w := forceStep ch s

/-- `BLINK_SLOW_STEP` (R178). -/
def slowStep (ch : Channel) (s : Panel w) : Panel w := forceStep ch s

/-- `BLINK_SLOW_SKIP`: no effect (R179). -/
def slowSkip (_ch : Channel) (s : Panel w) : Panel w := s

/-- `BLINK_IDLE`: no effect, the output holds its last level (R180). -/
def idleStep (_ch : Channel) (s : Panel w) : Panel w := s

/-- One channel's step on a rollover, selected by its G_BC vector (R174, R181). -/
def channelStep (c : Config) (ch : Channel) (s : Panel w) : Panel w :=
  match decode (.gBc ch) (vecBc c s ch) with
  | .op (.blinkFastStep ch' _) => fastStep ch' s
  | .op (.blinkSlowStep ch') => slowStep ch' s
  | .op (.blinkSlowSkip ch') => slowSkip ch' s
  | .op (.blinkIdle ch' _ _) => idleStep ch' s
  | _ => s

/-- `PACE_ADVANCE` (R173): the register is `PACE_BITS` bits wide, so that beyond the guard it wraps (R8; log 2). -/
def advancePace (s : Panel w) : Panel w := s.setPace (s.pace + 1)

/-- The counters of a rollover: `pace` to 0, `parity` and `elapsed` up by 1 modulo 256 (R174). -/
def rolloverCounters (s : Panel w) : Panel w :=
  ((s.setPace 0).setParity (s.parity + 1)).setElapsed (s.elapsed + 1)

/-- `PACE_ROLLOVER` (R174): the counters, then the channel steps in the order L, V, D, A. -/
def rolloverPace (c : Config) (s : Panel w) : Panel w :=
  c.channels.foldl (fun t ch => channelStep c ch t) (rolloverCounters s)

/-- Phase 6, selected by G_PS (R200). -/
def blinkPhase (c : Config) (s : Panel c.paceBits) : Panel c.paceBits :=
  match decode .gPs (vecPs c s) with
  | .op .paceAdvance => advancePace s
  | .op .paceRollover => rolloverPace c s
  | _ => s

/-- The meaning of `SET_FAST_BLINK`. -/
def execSetFastBlink (ch : Channel) (n : Nat) (s : State) : Result :=
  .next (s.withPanel (s.toPanel.requestBlink Config.hardware ch false n))

/-- The meaning of `SET_SLOW_BLINK`. -/
def execSetSlowBlink (ch : Channel) (n : Nat) (s : State) : Result :=
  .next (s.withPanel (s.toPanel.requestBlink Config.hardware ch true n))

/-- The meaning of `PACE_ADVANCE`. -/
def execPaceAdvance (s : State) : Result := .next (s.withPanel (advancePace s.toPanel))

/-- The meaning of `PACE_ROLLOVER`. -/
def execPaceRollover (s : State) : Result := .next (s.withPanel (rolloverPace Config.hardware s.toPanel))

/-- The meaning of `BLINK_IDLE`; its don't-care bits are not read. -/
def execBlinkIdle (ch : Channel) (_slow _parity : Bool) (s : State) : Result :=
  .next (s.withPanel (idleStep ch s.toPanel))

/-- The meaning of `BLINK_FAST_STEP`; its don't-care bit is not read. -/
def execBlinkFastStep (ch : Channel) (_parity : Bool) (s : State) : Result :=
  .next (s.withPanel (fastStep ch s.toPanel))

/-- The meaning of `BLINK_SLOW_STEP`. -/
def execBlinkSlowStep (ch : Channel) (s : State) : Result := .next (s.withPanel (slowStep ch s.toPanel))

/-- The meaning of `BLINK_SLOW_SKIP`. -/
def execBlinkSlowSkip (ch : Channel) (s : State) : Result := .next (s.withPanel (slowSkip ch s.toPanel))

end Sys2Proof.Machine
end

