-- ==== Sys2Proof/Machine/Debounce.lean ====
section
/-! DEFINITION. The Debounce Engine (spec/40_debounce.md): `DEB_PRESS`, `DEB_RELEASE` and phase 1 of a tick. -/

namespace Sys2Proof.Machine

variable {w : Nat}

/-- The counter after a press: plus 1, saturating at `THRESHOLD` (R101). -/
def countUp (c : Config) (n : Byte) : Byte := if n < c.threshold then n + 1 else n

/-- The counter after a release: minus 1, floored at 0 (R102). -/
def countDown (n : Byte) : Byte := if 0 < n then n - 1 else n

/-- `held` is latched when the counter is at `THRESHOLD` after the increment (R101). -/
def latchHeld (c : Config) (ch : Channel) (s : Panel w) : Panel w :=
  if s.cnt.get ch = c.threshold then s.setHeld ch true else s

/-- Doors only: the edge memory is cleared while the counter is below `RELEASE_LEVEL` (R101, decision D7; log 13). -/
def clearDoorsEdge (c : Config) (ch : Channel) (s : Panel w) : Panel w :=
  if ch = .doors ∧ s.cnt.get ch < c.releaseLevel then s.setOldHeld .doors false else s

/-- `DEB_PRESS` (R101). -/
def debPress (c : Config) (ch : Channel) (s : Panel w) : Panel w :=
  clearDoorsEdge c ch (latchHeld c ch (s.setCnt ch (countUp c (s.cnt.get ch))))

/-- Every channel but doors clears its edge memory together with `held` (R102, decision D7; log 13). -/
def clearEdge (ch : Channel) (s : Panel w) : Panel w :=
  if ch ≠ .doors then s.setOldHeld ch false else s

/-- `held` is cleared when the counter is below `RELEASE_LEVEL` after the decrement (R102). -/
def dropHeld (c : Config) (ch : Channel) (s : Panel w) : Panel w :=
  if s.cnt.get ch < c.releaseLevel then clearEdge ch (s.setHeld ch false) else s

/-- `DEB_RELEASE` (R102). -/
def debRelease (c : Config) (ch : Channel) (s : Panel w) : Panel w :=
  dropHeld c ch (s.setCnt ch (countDown (s.cnt.get ch)))

/-- One channel's debounce operation, selected by its G_DEB vector (R83, R100). -/
def debounceChannel (c : Config) (ch : Channel) (press : Bool) (s : Panel w) : Panel w :=
  match decode .gDeb (vecDeb ch press) with
  | .op (.debPress ch') => debPress c ch' s
  | .op (.debRelease ch') => debRelease c ch' s
  | _ => s

/-- Phase 1: every channel once, in the order L, V, D, A (R100, R200). -/
def debouncePhase (c : Config) (raw : RawIn) (s : Panel w) : Panel w :=
  c.channels.foldl (fun t ch => debounceChannel c ch (pressed raw ch) t) s

/-- The meaning of `DEB_PRESS`. -/
def execDebPress (ch : Channel) (s : State) : Result := .next (s.withPanel (debPress Config.hardware ch s.toPanel))

/-- The meaning of `DEB_RELEASE`. -/
def execDebRelease (ch : Channel) (s : State) : Result := .next (s.withPanel (debRelease Config.hardware ch s.toPanel))

end Sys2Proof.Machine
end

