-- ==== Sys2Proof/Machine/Toggle.lean ====
section
/-! DEFINITION. The Simple Toggle Actions (spec/42_toggle_actions.md) and phase 2 of a tick. -/

namespace Sys2Proof.Machine

variable {w : Nat}

/-- `LIGHTS_ON` (R150). -/
def lightsOnAction (c : Config) (s : Panel w) : Panel w :=
  ((((s.setOldHeld .lights true).setLightsOn true).putBlink c .lights false c.lightsOnFast).beep .lightsOn).emit
    .relayLights true

/-- `LIGHTS_OFF` (R151). -/
def lightsOffAction (c : Config) (s : Panel w) : Panel w :=
  ((((s.setOldHeld .lights true).setLightsOn false).putBlink c .lights true c.lightsOffSlow).beep .lightsOff).emit
    .relayLights false

/-- `VALET_PULSE` (R152). -/
def valetAction (c : Config) (s : Panel w) : Panel w :=
  ((s.setOldHeld .valet true).putBlink c .valet true c.valetSlow).beep .valet

/-- `DOORS_RISE` (R153). -/
def doorsRiseAction (c : Config) (s : Panel w) : Panel w :=
  ((s.setOldHeld .doors true).putBlink c .doors false c.doorsRiseFast).beep .doorsRise

/-- `DOORS_FALL` (R154). -/
def doorsFallAction (c : Config) (s : Panel w) : Panel w :=
  ((s.setOldHeld .doors false).putBlink c .doors true c.doorsFallSlow).beep .doorsFall

/-- The lights consumer, selected by G_LT (R155, R200). -/
def lightsPhase (c : Config) (s : Panel w) : Panel w :=
  match decode .gLt (vecLt s) with
  | .op .lightsOn => lightsOnAction c s
  | .op .lightsOff => lightsOffAction c s
  | _ => s

/-- The valet consumer, selected by G_VT (R155, R200). -/
def valetPhase (c : Config) (s : Panel w) : Panel w :=
  match decode .gVt (vecVt s) with
  | .op .valetPulse => valetAction c s
  | _ => s

/-- The doors consumer, selected by G_DT (R155, R200). -/
def doorsPhase (c : Config) (s : Panel w) : Panel w :=
  match decode .gDt (vecDt s) with
  | .op .doorsRise => doorsRiseAction c s
  | .op .doorsFall => doorsFallAction c s
  | _ => s

/-- The meaning of `LIGHTS_ON`. -/
def execLightsOn (s : State) : Result := .next (s.withPanel (lightsOnAction Config.hardware s.toPanel))

/-- The meaning of `LIGHTS_OFF`. -/
def execLightsOff (s : State) : Result := .next (s.withPanel (lightsOffAction Config.hardware s.toPanel))

/-- The meaning of `VALET_PULSE`. -/
def execValetPulse (s : State) : Result := .next (s.withPanel (valetAction Config.hardware s.toPanel))

/-- The meaning of `DOORS_RISE`. -/
def execDoorsRise (s : State) : Result := .next (s.withPanel (doorsRiseAction Config.hardware s.toPanel))

/-- The meaning of `DOORS_FALL`. -/
def execDoorsFall (s : State) : Result := .next (s.withPanel (doorsFallAction Config.hardware s.toPanel))

end Sys2Proof.Machine
end

