-- ==== Sys2Proof/Machine/Tick.lean ====
section
/-! DEFINITION. The tick sequencer and the boot operations (spec/44_tick.md). -/

namespace Sys2Proof.Machine

variable {w : Nat}

/-- Phase 2: lights, then valet, then doors (R155). -/
def togglePhases (c : Config) (s : Panel w) : Panel w := doorsPhase c (valetPhase c (lightsPhase c s))

/-- Phases 3, 4 and 5: the accessory rules 1, 2 and 3 (R200). -/
def accessoryPhases (c : Config) (s : Panel w) : Panel w := commitPhase c (rearmPhase (edgePhase c s))

/-- The phases of a tick in the order of R200, each seeing the writes of those before it (R201). -/
def tickPhases (c : Config) (raw : RawIn) (s : Panel c.paceBits) : Panel c.paceBits :=
  (blinkPhase c (accessoryPhases c (togglePhases c (debouncePhase c raw s.beginTick)))).kick

/-- `TICK(raw_in)` (R200) at the configuration `c`: no step in a refused state; refused in DEMO mode, then in the
reserved phase (R221, R222; log 6); otherwise the phases. -/
def tickAt (c : Config) (raw : RawIn) (s : Panel c.paceBits) :
    Host.Outcome (Panel c.paceBits) Fault Refusal :=
  match s.refused with
  | some why => .refused (.runRefused why)
  | none =>
    if s.mode = .demo then .next (s.refuse .demoMode)
    else if s.cphase = phaseReserved then .next (s.refuse .reservedPhase)
    else .next (tickPhases c raw s)

/-- The meaning of `TICK`. -/
def execTick (raw : RawIn) (s : State) : Result := s.lift (tickAt Config.hardware raw s.toPanel)

/-- The meaning of `BOOT_MAIN` (R202). -/
def execBootMain (raw : RawIn) (s : State) : Result := .next (s.boot raw)

/-- The meaning of `BOOT_DEMO` (R203): it sets the mode and the refused mark (log 6). -/
def execBootDemo (raw : RawIn) (s : State) : Result := .next (s.boot raw)

end Sys2Proof.Machine
end

