-- ==== Sys2Proof/Machine/Dispatch.lean ====
section
/-! DEFINITION. Every operation and its meaning, one arm each. -/

namespace Sys2Proof.Machine

/-- The meaning of one operation, applied alone to a state (log 7). -/
def exec (i : Instr) (s : State) : Host.Outcome State Fault Refusal :=
  match i with
  | .tick raw => Sys2Proof.Machine.execTick raw s
  | .bootMain raw => Sys2Proof.Machine.execBootMain raw s
  | .bootDemo raw => Sys2Proof.Machine.execBootDemo raw s
  | .setFastBlink ch n => Sys2Proof.Machine.execSetFastBlink ch n s
  | .setSlowBlink ch n => Sys2Proof.Machine.execSetSlowBlink ch n s
  | .debPress ch => Sys2Proof.Machine.execDebPress ch s
  | .debRelease ch => Sys2Proof.Machine.execDebRelease ch s
  | .accSelect => Sys2Proof.Machine.execAccSelect s
  | .accCancel => Sys2Proof.Machine.execAccCancel s
  | .accEdgeLocked => Sys2Proof.Machine.execAccEdgeLocked s
  | .accRearm => Sys2Proof.Machine.execAccRearm s
  | .accCommit => Sys2Proof.Machine.execAccCommit s
  | .lightsOn => Sys2Proof.Machine.execLightsOn s
  | .lightsOff => Sys2Proof.Machine.execLightsOff s
  | .valetPulse => Sys2Proof.Machine.execValetPulse s
  | .doorsRise => Sys2Proof.Machine.execDoorsRise s
  | .doorsFall => Sys2Proof.Machine.execDoorsFall s
  | .paceAdvance => Sys2Proof.Machine.execPaceAdvance s
  | .paceRollover => Sys2Proof.Machine.execPaceRollover s
  | .blinkIdle ch slow parity => Sys2Proof.Machine.execBlinkIdle ch slow parity s
  | .blinkFastStep ch parity => Sys2Proof.Machine.execBlinkFastStep ch parity s
  | .blinkSlowStep ch => Sys2Proof.Machine.execBlinkSlowStep ch s
  | .blinkSlowSkip ch => Sys2Proof.Machine.execBlinkSlowSkip ch s

end Sys2Proof.Machine
end

