-- ==== Sys2Proof/Machine/Step.lean ====
section
/-! DEFINITION. One step: fetch the next request, decode it in its format, perform it (spec/44_tick.md R205, R206). -/

namespace Sys2Proof.Machine

/-- One step of the machine. A refused state has no step but a boot (R34, R206). A guard vector that selects nothing is
no operation (R84). A word its format rejects stops the model (R85). -/
def step (s : State) : Host.Outcome State Fault Refusal :=
  match haltedBy (fetch s).2 (fetch s).1 with
  | some why => .refused (.runRefused why)
  | none =>
    match decode (fetch s).1.format (fetch s).1.word with
    | .op i => exec i (fetch s).2
    | .nothing => .next (fetch s).2
    | .rejected why => .refused (.undecodable why)

/-- A request that every format rejects: what a bare word outside the opcode table is stored as (log 8). -/
def unreadableRequest : Request := ⟨.gVt, 0x3FF⟩

/-- The state with the bare table word queued first, in the format `decodeTableWord` reads it in (log 8). -/
def State.withFetchWord (s : State) (nbits w : Nat) : State :=
  { s with stimulus := (tableRequest nbits w).getD unreadableRequest :: s.stimulus }

end Sys2Proof.Machine
end

