-- ==== Sys2Proof/Safety.lean ====
section
/-! DEFINITION. What claims about runs are made in: the output record of a tick and the observation of a run
(spec/44_tick.md R205), and the predicates of a state between two ticks. -/

namespace Sys2Proof.Safety

open Sys2Proof.Machine

/-! ### Operations -/

/-- The two boot operations (R202, R203). -/
def isBoot : Instr → Prop
  | .bootMain _ => True
  | .bootDemo _ => True
  | _ => False

/-- The operations at the ports (R70): a tick or a boot. -/
def isExternal : Instr → Prop
  | .tick _ => True
  | .bootMain _ => True
  | .bootDemo _ => True
  | _ => False

/-- Operations performed in order, stopping at the first that answers no next state. -/
def perform : List Instr → State → Result
  | [], s => .next s
  | i :: is, s =>
    match exec i s with
    | .next t => perform is t
    | .fault r => .fault r
    | .refused r => .refused r

/-- The state in which `TICK` runs its phases (R200): not refused, MAIN mode, not in the reserved phase. -/
def Ready (s : State) : Prop :=
  s.refused = none ∧ s.mode = .main ∧ s.cphase ≠ phaseReserved

/-- `q` is `p` with the value `v` at `ch`: the channel written, and every other channel as before. -/
def WritesOnly {α : Type} (p q : PerCh α) (ch : Channel) (v : α) : Prop :=
  q.get ch = v ∧ ∀ ch', ch' ≠ ch → q.get ch' = p.get ch'

/-! ### Observation (R81, R205) -/

/-- What an outcome leaves of the block: a next state without the environment's side of the ports. -/
def visible : Result → Host.Outcome (Panel Config.hardware.paceBits) Fault Refusal
  | .next t => .next t.toPanel
  | .fault r => .fault r
  | .refused r => .refused r

/-- The ticks of a run: the output records, in order, and the outcome of the last operation (R205). A tick that is
refused emits no record (R221). -/
def observeTicks : List RawIn → State → List TickRecord × Result
  | [], s => ([], .next s)
  | w :: ws, s =>
    match exec (.tick w) s with
    | .next t =>
      if t.refused.isSome then ([], .next t)
      else ((t.toTickRecord :: (observeTicks ws t).1), (observeTicks ws t).2)
    | .fault r => ([], .fault r)
    | .refused r => ([], .refused r)

/-- A run: a boot with its sample, then ticks (R205). -/
def observeRun (sample : RawIn) (ws : List RawIn) : List TickRecord × Result :=
  observeTicks ws (State.reset.boot sample)

/-- No tick of the list, from this state on, sees an accessory edge: `RISE(A)` is false after the debounce phase of each
(R120, R130). -/
def NoAccessoryEdge : List RawIn → State → Prop
  | [], _ => True
  | w :: ws, s =>
    rise (debouncePhase Config.hardware w s.toPanel.beginTick) .accessory = false ∧
      ∀ t, exec (.tick w) s = .next t → NoAccessoryEdge ws t

/-- A beep of the accessory state machine (R80). -/
def isAccessoryBeep : BeepCause → Bool
  | .accCancel => true
  | .accSelect _ => true
  | .accCommit => true
  | _ => false

/-- The level of a line after a list of writes, given its level before (R81). -/
def levelAfter (writes : List OutWrite) (line : OutLine) (before : Bool) : Bool :=
  writes.foldl (fun l w => if w.line = line then w.level else l) before

/-! ### States between two ticks -/

/-- The queue holds only words of the two ports (R70): the environment uses no other. -/
def PortsOnly (s : State) : Prop :=
  ∀ r ∈ s.stimulus, ∃ w : RawIn, r = tickRequest w ∨ r = bootRequest w

variable {w : Nat}

/-- The debounce facts of R106, the counter's range of R22, and that no edge is pending between two ticks (R104). -/
def DebounceSettled (s : Panel w) : Prop :=
  ∀ ch, (s.cnt.get ch).toNat ≤ 160 ∧ (s.held.get ch = true → 10 ≤ (s.cnt.get ch).toNat) ∧
    s.oldHeld.get ch = s.held.get ch

/-- The accessory facts (a) to (e) of R128. The third is (c) and also says that the relays are off in LOCK, which R122
brings about and which "at most one accessory relay is ever energized" needs. -/
def AccessorySettled (s : Panel w) : Prop :=
  (s.cphase = phaseLock → s.sel = 0 ∧ s.held.get .accessory = true ∧ s.oldHeld.get .accessory = true) ∧
  (s.cphase = phaseJust →
    s.sel ≠ 0 ∧ ∀ k : Pick, s.out.get (.relayAcc k) = decide (k.code = s.sel)) ∧
  (s.cphase ≠ phaseJust → ∀ k : Pick, s.out.get (.relayAcc k) = false) ∧
  (∀ k : Pick, s.out.get (.selLed k) = decide (k.code = s.sel)) ∧
  s.cphase ≠ phaseReserved

/-- The bound on `elapsed` while it can be read (R129). -/
def ElapsedBounded (s : Panel w) : Prop :=
  s.cphase = phaseWait → s.sel ≠ 0 → s.elapsed.toNat ≤ 11

/-- The pace counter never exceeds the limit (R175). -/
def PaceBounded (s : Panel w) : Prop :=
  s.pace.toNat ≤ Config.hardware.paceLimit

/-- The accessory blink channel is idle and its indicator is off (R184). -/
def AccessoryIndicatorIdle (s : Panel w) : Prop :=
  s.blink.get .accessory = 0 ∧ s.out.get (.ind .accessory) = false

/-- The lights relay follows the lights latch (R150, R151). -/
def LightsRelayFollows (s : Panel w) : Prop :=
  s.out.get .relayLights = s.lightsOn

/-- The refused mark is set exactly in DEMO mode (R203, R221). -/
def DemoRefused (s : Panel w) : Prop :=
  s.refused = (if s.mode = .demo then some .demoMode else none)

/-- What holds between two operations of the environment. -/
structure Settled (s : State) : Prop where
  ports : PortsOnly s
  debounce : DebounceSettled s.toPanel
  accessory : AccessorySettled s.toPanel
  elapsed : ElapsedBounded s.toPanel
  pace : PaceBounded s.toPanel
  indicator : AccessoryIndicatorIdle s.toPanel
  lights : LightsRelayFollows s.toPanel
  demo : DemoRefused s.toPanel

/-- At most one accessory relay is energized (R128). -/
def OneRelay (s : Panel w) : Prop :=
  ∀ j k : Pick, s.out.get (.relayAcc j) = true → s.out.get (.relayAcc k) = true → j = k

end Sys2Proof.Safety
end

