-- ==== Sys2Proof/Certificates/Slice0/Obligations.lean ====
section
/-! DEFINITION. The statements about the model, for the provers. A docstring names the rules of spec/ a statement
formalises; where the spec marks a rule's reading as its own decision D<n>, or the model chose, it says so. -/

open Sys2Proof Sys2Proof.Machine Sys2Proof.Safety

/-! ### Encoding -/

/-- Decoding an encoded well-formed operation gives it back, in its own format (30_encoding.md section 6). -/
def Obligations.DecodeAfterEncode : Prop :=
  ∀ i : Instr, i.wellFormed = true → decode (encode i).format (encode i).word = .op i

/-- Encoding what a word decodes to gives the word back: no bit of a word is dropped, and only well-formed operations
are decoded (30_encoding.md sections 3, 5, 6). -/
def Obligations.EncodeAfterDecode : Prop :=
  ∀ (f : Format) (w : Word) (i : Instr), decode f w = .op i → encode i = ⟨f, w⟩ ∧ i.wellFormed = true

/-- The decoder reads an operation exactly where a row of the opcode table matches, and it is that row's operation
(30_encoding.md section 6). The mnemonics being distinct, no two rows of a format match the same word. -/
def Obligations.DecoderFollowsTable : Prop :=
  (∀ (f : Format) (w : Word) (i : Instr), decode f w = .op i →
    ∃ r ∈ opcodeRows, r.mnemonic = i.mnemonic ∧ r.format = f.base ∧ r.accepts w = true) ∧
  (∀ (f : Format) (w : Word), ∀ r ∈ opcodeRows, r.format = f.base → r.accepts w = true →
    ∃ i : Instr, decode f w = .op i ∧ i.mnemonic = r.mnemonic)

/-- The guard vectors that select no operation are those R84 lists, where R85 does not call the vector unreachable. -/
def Obligations.NoOperationVectors : Prop :=
  (∀ o : Bool, decode .gLt (wordOfBits [false, o]) = .nothing) ∧
  decode .gVt (wordOfBits [false]) = .nothing ∧
  decode .gDt (wordOfBits [false, false]) = .nothing ∧
  (∀ p : BitVec 2, decode .gAe (wordOfBits (false :: phaseBits p)) = .nothing) ∧
  (∀ (h : Bool) (p : BitVec 2), h = true ∨ p ≠ 2 →
    decode .gAr (wordOfBits (h :: phaseBits p)) = .nothing) ∧
  (∀ (p : BitVec 2) (z e : Bool), ¬ (p = 0 ∧ z = true ∧ e = true) →
    decode .gAc (wordOfBits (phaseBits p ++ [z, e])) = .nothing)

/-- Fifteen words of all twelve formats, written out from the patterns of R84 and the words of 95_test_vectors.md L1-0,
decode to their operations. -/
def Obligations.SampleWordsDecode : Prop :=
  decode .fTick 0b1010 = .op (.tick 0b1010) ∧
  decode .fBoot 0b0010 = .op (.bootMain 0b0010) ∧
  decode .fBoot 0b0000 = .op (.bootDemo 0b0000) ∧
  decode .fBreq 0b0000001000 = .op (.setFastBlink .lights 4) ∧
  decode .fBreq 0b1010000110 = .op (.setSlowBlink .doors 3) ∧
  decode .gDeb 0b111 = .op (.debPress .accessory) ∧
  decode .gDeb 0b010 = .op (.debRelease .valet) ∧
  decode .gLt 0b10 = .op .lightsOn ∧
  decode .gVt 0b1 = .op .valetPulse ∧
  decode .gDt 0b01 = .op .doorsFall ∧
  decode .gAe 0b101 = .op .accCancel ∧
  decode .gAr 0b010 = .op .accRearm ∧
  decode .gPs 0b1 = .op .paceRollover ∧
  decode .gAc 0b0011 = .op .accCommit ∧
  decode (.gBc .doors) 0b110 = .op (.blinkSlowStep .doors)

/-- Reserved and unreachable words are no operation (30_encoding.md section 7): G_AE `111`, G_DT `11`, every F_BREQ word
with bit 0 set, and every word wider than its format. -/
def Obligations.ReservedWordsRejected : Prop :=
  decode .gAe 0b111 = .rejected .unreachableVector ∧
  decode .gDt 0b11 = .rejected .unreachableVector ∧
  (∀ w : Word, w.getLsbD 0 = true → decode .fBreq w = .rejected .oddRequest) ∧
  (∀ (f : Format) (w : Word), 2 ^ f.width ≤ w.toNat → decode f w = .rejected .tooWide)

/-- The blink byte of a request (R75 operand assembly; `SLOW_FLAG` of R6): the low 8 bits of the request's word, count
twice the repeats, slow flag the word's `s`. -/
def Obligations.RequestByteFields : Prop :=
  ∀ (ch : Channel) (slow : Bool) (r : BitVec 6),
    requestByte Config.hardware slow r = (breqWord ch slow r).setWidth 8 ∧
    (blinkCount (requestByte Config.hardware slow r)).toNat = 2 * r.toNat ∧
    blinkSlow Config.hardware (requestByte Config.hardware slow r) = slow ∧
    ((breqWord ch slow r).extractLsb' 8 2) = ch.index

/-- The line ids are those of R79's table and the beep cause codes those of R80's: distinct, and never reserved. -/
def Obligations.LineAndCauseCodes : Prop :=
  (∀ ch : Channel, (OutLine.ind ch).id.toNat = ch.index.toNat) ∧
  (∀ k : Pick, (OutLine.selLed k).id.toNat = 3 + k.code.toNat) ∧
  OutLine.relayLights.id.toNat = 7 ∧
  (∀ k : Pick, (OutLine.relayAcc k).id.toNat = 7 + k.code.toNat) ∧
  BeepCause.lightsOff.code.toNat = 0 ∧ BeepCause.lightsOn.code.toNat = 1 ∧ BeepCause.valet.code.toNat = 2 ∧
  BeepCause.doorsRise.code.toNat = 3 ∧ BeepCause.doorsFall.code.toNat = 4 ∧ BeepCause.accCancel.code.toNat = 5 ∧
  (∀ sel : BitVec 2, (BeepCause.accSelect sel).code.toNat = 6 + sel.toNat) ∧ BeepCause.accCommit.code.toNat = 10 ∧
  (∀ a b : OutLine, a.id = b.id → a = b) ∧
  (∀ a b : BeepCause, a.code = b.code → a = b) ∧
  (∀ a : OutLine, a.id.toNat ≤ 10) ∧
  (∀ a : BeepCause, a.code.toNat ≤ 10)

/-! ### Configuration -/

/-- Parameters are refused exactly where the condition of R8 fails, and what is accepted keeps them. The hardware's open
pace parameters meet the condition, and every pair that meets it is a possible value of them (the model's construction,
log 2). -/
def Obligations.HardwarePaceFits : Prop :=
  (∀ p : Params, p.accept = none ↔ ¬ p.paceLimit + 2 ≤ 2 ^ p.paceBits) ∧
  (∀ (p : Params) (c : Config), p.accept = some c → c.toParams = p) ∧
  Config.hardware.paceLimit + 2 ≤ 2 ^ Config.hardware.paceBits ∧
  ∀ limit bits : Nat, limit + 2 ≤ 2 ^ bits → ∃ surplus : Nat, bits = (Config.atPace limit surplus).paceBits

/-- The open beep map meets the three constraints of R80, read as log 3 says (the model's construction). -/
def Obligations.BeepMapConstraints : Prop :=
  Config.beepPattern .valet = .medium ∧ Config.beepPattern .doorsRise = .long ∧
  Config.beepPattern .lightsOff = Config.beepPattern .doorsFall ∧
  Config.beepPattern .doorsFall = Config.beepPattern .accCancel ∧
  ∀ a b : BitVec 2, Config.beepPattern (.accSelect a) = Config.beepPattern (.accSelect b) → a = b

/-! ### Reset and boot -/

/-- Every field of R40's table holds its reset value. The fields the table does not list are the model's (log 5,
log 9) and are not named here. -/
def Obligations.ResetValues : Prop :=
  (∀ ch : Channel, State.reset.cnt.get ch = 0 ∧ State.reset.held.get ch = false ∧
    State.reset.oldHeld.get ch = false ∧ State.reset.blink.get ch = 0) ∧
  State.reset.pace = 0 ∧ State.reset.parity = 0 ∧ State.reset.sel = 0 ∧ State.reset.cphase = 0 ∧
  State.reset.elapsed = 0 ∧ State.reset.lightsOn = false ∧
  (∀ line : OutLine, State.reset.out.get line = false) ∧
  State.reset.mode = .main ∧ State.reset.refused = none

/-- `BOOT_MAIN` (R202; the boot sample is the spec's decision D21): from any state, whatever the other three bits of the
sample, every field at its reset value and mode MAIN. That the environment's side of the ports stays (log 10) and that
the output record is then that of no tick (log 9) are the model's choice. -/
def Obligations.BootMainResets : Prop :=
  ∀ (raw : RawIn) (s : State), raw.getLsbD 1 = true →
    exec (.bootMain raw) s =
      .next { State.reset with mode := .main, refused := none, stimulus := s.stimulus, envCount := s.envCount }

/-- `BOOT_DEMO` (R203; decisions D21, D32): every field at its reset value, mode DEMO, and the run refused with reason
DemoMode. That the refusal is a next state with the mark set (log 6), that the environment's side of the ports stays
(log 10) and that the output record is then that of no tick (log 9) are the model's choice. -/
def Obligations.BootDemoRefuses : Prop :=
  ∀ (raw : RawIn) (s : State), raw.getLsbD 1 = false →
    exec (.bootDemo raw) s =
      .next { State.reset with
        mode := .demo, refused := some .demoMode, stimulus := s.stimulus, envCount := s.envCount }

/-- Nothing survives a boot (R206, 60_exceptions.md R223): the observation of R205, made after a boot, does not depend
on the state the boot ended, whatever that state was. The output records of the ticks are the same, and so is the outcome
of the last of them, up to the environment's side of the ports, which a boot leaves (the model's choice, log 10). -/
def Obligations.NothingSurvivesBoot : Prop :=
  ∀ (s s' : State) (sample : RawIn) (ws : List RawIn),
    (observeTicks ws (s.boot sample)).1 = (observeTicks ws (s'.boot sample)).1 ∧
    visible (observeTicks ws (s.boot sample)).2 = visible (observeTicks ws (s'.boot sample)).2

/-! ### Step -/

/-- A step fetches the head of the queue, decodes it in its format and runs the operation on the state without it,
unless the state is refused and the operation is no boot (log 5). -/
def Obligations.StepRunsDecoded : Prop :=
  ∀ (s : State) (r : Request) (rest : List Request) (i : Instr),
    s.stimulus = r :: rest → decode r.format r.word = .op i → (s.refused = none ∨ isBoot i) →
    step s = exec i { s with stimulus := rest }

/-- A step on an empty queue performs the port operation that the environment's next free choice encodes: a tick with
its word, or the boot its sample selects (R206; the free choice is the model's, log 5). -/
def Obligations.StepOnEmptyQueue : Prop :=
  ∀ s : State, s.stimulus = [] → s.refused = none →
    ∃ i : Instr, decode (envRequest s.envCount).format (envRequest s.envCount).word = .op i ∧
      i =
        (if (Config.envChoice s.envCount).1 then
          if (Config.envChoice s.envCount).2.getLsbD 1 then .bootMain (Config.envChoice s.envCount).2
          else .bootDemo (Config.envChoice s.envCount).2
        else .tick (Config.envChoice s.envCount).2) ∧
      isExternal i ∧ i.wellFormed = true ∧
      step s = exec i { s with envCount := s.envCount + 1 }

/-- A queued word that selects no operation performs none (30_encoding.md section 6), and a word its format rejects
stops the model (log 30). -/
def Obligations.StepWithoutOperation : Prop :=
  ∀ (s : State) (r : Request) (rest : List Request), s.stimulus = r :: rest → s.refused = none →
    (decode r.format r.word = .nothing → step s = .next { s with stimulus := rest }) ∧
    (∀ why, decode r.format r.word = .rejected why → step s = .refused (.undecodable why))

/-- A refused state has no step but a boot, and no operation but a boot clears the mark (10_state.md section 7,
60_exceptions.md section 1; decision D32). -/
def Obligations.RefusedOnlyLeftByBoot : Prop :=
  (∀ (s t : State) (why : RefuseReason), s.refused = some why → step s = .next t →
    ∃ raw : RawIn, (fetch s).1 = bootRequest raw ∧ t = (fetch s).2.boot raw) ∧
  (∀ (i : Instr) (s t : State), s.refused ≠ none → exec i s = .next t → ¬ isBoot i → t.refused ≠ none)

/-- Only a boot changes the mode (60_exceptions.md R224): no other operation does, and no other step. -/
def Obligations.OnlyBootChangesMode : Prop :=
  (∀ (i : Instr) (s t : State), exec i s = .next t → ¬ isBoot i → t.mode = s.mode) ∧
  (∀ s t : State, step s = .next t → t.mode ≠ s.mode →
    ∃ i : Instr, isBoot i ∧ decode (fetch s).1.format (fetch s).1.word = .op i ∧ exec i (fetch s).2 = .next t)

/-! ### The tick -/

/-- `TICK` (R200; phase order is decision D3): the three tests of its first lines in their order, then each phase's
operation, selected by its guard on the state the phases before it left, and the watchdog kick. A phase with no
operation is an empty list. The form of a refusal in the first three clauses, a next state with the mark set and no step
after it, is the model's choice (log 6). -/
def Obligations.TickFollowsPhases : Prop :=
  (∀ (raw : RawIn) (s : State) (why : RefuseReason), s.refused = some why →
    exec (.tick raw) s = .refused (.runRefused why)) ∧
  (∀ (raw : RawIn) (s : State), s.refused = none → s.mode = .demo →
    exec (.tick raw) s = .next { s with refused := some .demoMode }) ∧
  (∀ (raw : RawIn) (s : State), s.refused = none → s.mode = .main → s.cphase = 3 →
    exec (.tick raw) s = .next { s with refused := some .reservedPhase }) ∧
  (∀ (raw : RawIn) (s : State), Ready s →
    ∃ s1 s2 s3 s4 s5 s6 s7 s8 : State,
      perform
        [if raw.getLsbD 0 then .debPress .lights else .debRelease .lights,
         if raw.getLsbD 1 then .debRelease .valet else .debPress .valet,
         if raw.getLsbD 2 then .debPress .doors else .debRelease .doors,
         if raw.getLsbD 3 then .debPress .accessory else .debRelease .accessory]
        { s with writes := [], beeps := [], wdtKick := false } = .next s1 ∧
      perform (if rise s1.toPanel .lights then [if s1.lightsOn then .lightsOff else .lightsOn] else []) s1 = .next s2 ∧
      perform (if rise s2.toPanel .valet then [.valetPulse] else []) s2 = .next s3 ∧
      perform
        (if rise s3.toPanel .doors then [.doorsRise] else if fall s3.toPanel .doors then [.doorsFall] else [])
        s3 = .next s4 ∧
      perform
        (if rise s4.toPanel .accessory then
          [if s4.cphase = 0 then .accSelect else if s4.cphase = 1 then .accCancel else .accEdgeLocked]
         else []) s4 = .next s5 ∧
      perform (if s5.held.get .accessory = false ∧ s5.cphase = 2 then [.accRearm] else []) s5 = .next s6 ∧
      perform (if s6.cphase = 0 ∧ s6.sel ≠ 0 ∧ 10 < s6.elapsed.toNat then [.accCommit] else []) s6 = .next s7 ∧
      perform [if Config.hardware.paceLimit < s7.pace.toNat + 1 then .paceRollover else .paceAdvance] s7 = .next s8 ∧
      exec (.tick raw) s = .next { s8 with wdtKick := true })

/-- Every completed tick kicks the watchdog (R204; decision D22) and leaves mode, mark, queue and the count of free
choices as they were. -/
def Obligations.TickKicksWatchdog : Prop :=
  ∀ (raw : RawIn) (s : State), Ready s →
    ∃ t : State, exec (.tick raw) s = .next t ∧ t.wdtKick = true ∧ t.mode = s.mode ∧ t.refused = none ∧
      t.stimulus = s.stimulus ∧ t.envCount = s.envCount

/-- The levels at the end of a tick follow from its write list, applied in order to the levels before it
(30_encoding.md section 4, the last sentence of R81). -/
def Obligations.LevelsFollowWrites : Prop :=
  ∀ (raw : RawIn) (s t : State), Ready s → exec (.tick raw) s = .next t →
    ∀ line : OutLine, t.out.get line = levelAfter t.writes line (s.out.get line)

/-- A tick emits at most four beeps and at most one of the accessory machine (70_reset_and_hazards.md section 3,
30_encoding.md section 4: derived in the spec). -/
def Obligations.AtMostFourBeeps : Prop :=
  ∀ (raw : RawIn) (s t : State), Ready s → exec (.tick raw) s = .next t →
    t.beeps.length ≤ 4 ∧
    (t.beeps.filter isAccessoryBeep).length ≤ 1

/-! ### Debounce -/

/-- `DEB_PRESS` (R101; decisions D5, D7): the counter goes up by 1 and saturates at 160; `held` is set at 160 and
otherwise kept; the doors edge memory is cleared below 10; nothing else changes. A counter already above 160, which
no run reaches, stays. -/
def Obligations.DebPressResult : Prop :=
  ∀ (ch : Channel) (s : State), ∃ t : State, exec (.debPress ch) s = .next t ∧
    (t.cnt.get ch).toNat = (if (s.cnt.get ch).toNat < 160 then (s.cnt.get ch).toNat + 1 else (s.cnt.get ch).toNat) ∧
    t.held.get ch = (decide ((t.cnt.get ch).toNat = 160) || s.held.get ch) ∧
    t.oldHeld.get ch = (s.oldHeld.get ch && !(decide (ch = .doors) && decide ((t.cnt.get ch).toNat < 10))) ∧
    (∀ ch', ch' ≠ ch → t.cnt.get ch' = s.cnt.get ch' ∧ t.held.get ch' = s.held.get ch' ∧
      t.oldHeld.get ch' = s.oldHeld.get ch') ∧
    t = { s with cnt := t.cnt, held := t.held, oldHeld := t.oldHeld }

/-- `DEB_RELEASE` (R102; decisions D6, D7): the counter goes down by 1 and stops at 0; below 10 `held` is cleared and,
but for doors, the edge memory with it; nothing else changes. -/
def Obligations.DebReleaseResult : Prop :=
  ∀ (ch : Channel) (s : State), ∃ t : State, exec (.debRelease ch) s = .next t ∧
    (t.cnt.get ch).toNat = (s.cnt.get ch).toNat - 1 ∧
    t.held.get ch = (s.held.get ch && !decide ((t.cnt.get ch).toNat < 10)) ∧
    t.oldHeld.get ch = (s.oldHeld.get ch && !(decide (ch ≠ .doors) && decide ((t.cnt.get ch).toNat < 10))) ∧
    (∀ ch', ch' ≠ ch → t.cnt.get ch' = s.cnt.get ch' ∧ t.held.get ch' = s.held.get ch' ∧
      t.oldHeld.get ch' = s.oldHeld.get ch') ∧
    t = { s with cnt := t.cnt, held := t.held, oldHeld := t.oldHeld }

/-- The order in which the channels are debounced cannot be observed (40_debounce.md section 1: derived in the
spec). -/
def Obligations.DebounceOrderIrrelevant : Prop :=
  ∀ (c : Config) (raw : RawIn) (s : Panel c.paceBits) (order : List Channel), order.Perm c.channels →
    order.foldl (fun t ch => debounceChannel c ch (pressed raw ch) t) s = debouncePhase c raw s

/-- `held` is set only when its counter is at 160 and cleared only when it is below 10 in a tick that reads the channel
released (10_state.md section 8, the document's first invariant): no operation but a boot does otherwise. -/
def Obligations.HeldChangesOnlyAtLevels : Prop :=
  ∀ (i : Instr) (s t : State) (ch : Channel), exec i s = .next t → ¬ isBoot i →
    (s.held.get ch = false → t.held.get ch = true → (t.cnt.get ch).toNat = 160) ∧
    (s.held.get ch = true → t.held.get ch = false → (t.cnt.get ch).toNat < 10 ∧
      (i = .debRelease ch ∨ ∃ raw, i = .tick raw ∧ pressed raw ch = false))

/-- Press confirmation (40_debounce.md section 4: derived in the spec): from a counter at 0, after n consecutive
pressed ticks the counter is n, at most 160, and `held` is set exactly from the 160th. -/
def Obligations.PressConfirmation : Prop :=
  ∀ (ch : Channel) (s : State) (ws : List RawIn), Ready s → s.cnt.get ch = 0 → s.held.get ch = false →
    (∀ w ∈ ws, pressed w ch = true) →
    ∃ t : State, (observeTicks ws s).2 = .next t ∧
      (t.cnt.get ch).toNat = min ws.length 160 ∧ t.held.get ch = decide (160 ≤ ws.length)

/-- Release confirmation (40_debounce.md section 4: derived in the spec): from a held channel with its counter at
k ≥ 10, after n consecutive released ticks the counter is k - n, and `held` is clear exactly from the (k - 9)th. -/
def Obligations.ReleaseConfirmation : Prop :=
  ∀ (ch : Channel) (s : State) (ws : List RawIn), Ready s → s.held.get ch = true → 10 ≤ (s.cnt.get ch).toNat →
    (∀ w ∈ ws, pressed w ch = false) →
    ∃ t : State, (observeTicks ws s).2 = .next t ∧
      (t.cnt.get ch).toNat = (s.cnt.get ch).toNat - ws.length ∧
      t.held.get ch = decide (ws.length < (s.cnt.get ch).toNat - 9)

/-! ### Toggle actions -/

/-- `LIGHTS_ON` (R150; decision D8). -/
def Obligations.LightsOnResult : Prop :=
  ∀ s : State, ∃ t : State, exec .lightsOn s = .next t ∧
    WritesOnly s.oldHeld t.oldHeld .lights true ∧ t.lightsOn = true ∧ WritesOnly s.blink t.blink .lights 0x08 ∧
    t.out.get .relayLights = true ∧ (∀ line, line ≠ .relayLights → t.out.get line = s.out.get line) ∧
    t.writes = s.writes ++ [⟨.relayLights, true⟩] ∧ t.beeps = s.beeps ++ [.lightsOn] ∧
    t = { s with
      oldHeld := t.oldHeld, lightsOn := t.lightsOn, blink := t.blink, out := t.out, writes := t.writes,
      beeps := t.beeps }

/-- `LIGHTS_OFF` (R151; decision D8). -/
def Obligations.LightsOffResult : Prop :=
  ∀ s : State, ∃ t : State, exec .lightsOff s = .next t ∧
    WritesOnly s.oldHeld t.oldHeld .lights true ∧ t.lightsOn = false ∧ WritesOnly s.blink t.blink .lights 0x84 ∧
    t.out.get .relayLights = false ∧ (∀ line, line ≠ .relayLights → t.out.get line = s.out.get line) ∧
    t.writes = s.writes ++ [⟨.relayLights, false⟩] ∧ t.beeps = s.beeps ++ [.lightsOff] ∧
    t = { s with
      oldHeld := t.oldHeld, lightsOn := t.lightsOn, blink := t.blink, out := t.out, writes := t.writes,
      beeps := t.beeps }

/-- `VALET_PULSE` (R152; decision D8). -/
def Obligations.ValetPulseResult : Prop :=
  ∀ s : State, ∃ t : State, exec .valetPulse s = .next t ∧
    WritesOnly s.oldHeld t.oldHeld .valet true ∧ WritesOnly s.blink t.blink .valet 0x94 ∧
    t.beeps = s.beeps ++ [.valet] ∧ t = { s with oldHeld := t.oldHeld, blink := t.blink, beeps := t.beeps }

/-- `DOORS_RISE` (R153; decision D8). -/
def Obligations.DoorsRiseResult : Prop :=
  ∀ s : State, ∃ t : State, exec .doorsRise s = .next t ∧
    WritesOnly s.oldHeld t.oldHeld .doors true ∧ WritesOnly s.blink t.blink .doors 0x10 ∧
    t.beeps = s.beeps ++ [.doorsRise] ∧ t = { s with oldHeld := t.oldHeld, blink := t.blink, beeps := t.beeps }

/-- `DOORS_FALL` (R154; decisions D7, D8). -/
def Obligations.DoorsFallResult : Prop :=
  ∀ s : State, ∃ t : State, exec .doorsFall s = .next t ∧
    WritesOnly s.oldHeld t.oldHeld .doors false ∧ WritesOnly s.blink t.blink .doors 0x86 ∧
    t.beeps = s.beeps ++ [.doorsFall] ∧ t = { s with oldHeld := t.oldHeld, blink := t.blink, beeps := t.beeps }

/-! ### Accessory -/

/-- `ACC_SELECT` (R121; decisions D8, D25): the selection advances modulo 4, exactly its LED is lit, three LED writes in
order, the selection's beep, `elapsed` zeroed; the relays and every other line keep their level. -/
def Obligations.AccSelectResult : Prop :=
  ∀ s : State, ∃ t : State, exec .accSelect s = .next t ∧
    WritesOnly s.oldHeld t.oldHeld .accessory true ∧ t.sel.toNat = (s.sel.toNat + 1) % 4 ∧ t.elapsed = 0 ∧
    (∀ k : Pick, t.out.get (.selLed k) = decide (k.code = t.sel)) ∧
    (∀ line : OutLine, (∀ k, line ≠ .selLed k) → t.out.get line = s.out.get line) ∧
    t.writes = s.writes ++ Pick.all.map (fun k => ⟨.selLed k, decide (k.code = t.sel)⟩) ∧
    t.beeps = s.beeps ++ [.accSelect t.sel] ∧
    t = { s with
      oldHeld := t.oldHeld, sel := t.sel, elapsed := t.elapsed, out := t.out, writes := t.writes,
      beeps := t.beeps }

/-- `ACC_CANCEL` (R122; decision D8): LEDs and relays off, selection Idle, phase LOCK, the cancel beep; `elapsed` is
not written. -/
def Obligations.AccCancelResult : Prop :=
  ∀ s : State, ∃ t : State, exec .accCancel s = .next t ∧
    WritesOnly s.oldHeld t.oldHeld .accessory true ∧ t.sel = 0 ∧ t.cphase = 2 ∧
    (∀ k : Pick, t.out.get (.selLed k) = false ∧ t.out.get (.relayAcc k) = false) ∧
    (∀ line : OutLine, (∀ k, line ≠ .selLed k ∧ line ≠ .relayAcc k) → t.out.get line = s.out.get line) ∧
    t.writes = s.writes ++ Pick.all.map (fun k => ⟨.selLed k, false⟩) ++
      Pick.all.map (fun k => ⟨.relayAcc k, false⟩) ∧
    t.beeps = s.beeps ++ [.accCancel] ∧
    t = { s with
      oldHeld := t.oldHeld, sel := t.sel, cphase := t.cphase, out := t.out, writes := t.writes,
      beeps := t.beeps }

/-- `ACC_EDGE_LOCKED` (R123; decision D8): the edge is acknowledged and nothing else changes. -/
def Obligations.AccEdgeLockedResult : Prop :=
  ∀ s : State, ∃ t : State, exec .accEdgeLocked s = .next t ∧
    WritesOnly s.oldHeld t.oldHeld .accessory true ∧ t = { s with oldHeld := t.oldHeld }

/-- `ACC_REARM` (R124; decision D19): LOCK becomes WAIT when the debounced button is released, and nothing else
changes; where its condition fails nothing changes. -/
def Obligations.AccRearmResult : Prop :=
  ∀ s : State,
    (s.cphase = 2 → s.held.get .accessory = false → exec .accRearm s = .next { s with cphase := 0 }) ∧
    (s.cphase ≠ 2 ∨ s.held.get .accessory = true → exec .accRearm s = .next s)

/-- `ACC_COMMIT` (R125; decisions D17, D20): in WAIT, with a selection and more than 10 rollovers elapsed, the phase
becomes JUST and exactly the selected LED and relay are written 1; where its condition fails nothing changes. -/
def Obligations.AccCommitResult : Prop :=
  (∀ (s : State) (k : Pick), s.cphase = 0 → s.sel = k.code → 10 < s.elapsed.toNat →
    ∃ t : State, exec .accCommit s = .next t ∧ t.cphase = 1 ∧
      t.out.get (.selLed k) = true ∧ t.out.get (.relayAcc k) = true ∧
      (∀ line : OutLine, line ≠ .selLed k → line ≠ .relayAcc k → t.out.get line = s.out.get line) ∧
      t.writes = s.writes ++ [⟨.selLed k, true⟩, ⟨.relayAcc k, true⟩] ∧ t.beeps = s.beeps ++ [.accCommit] ∧
      t = { s with cphase := t.cphase, out := t.out, writes := t.writes, beeps := t.beeps }) ∧
  (∀ s : State, s.cphase ≠ 0 ∨ s.sel = 0 ∨ s.elapsed.toNat ≤ 10 → exec .accCommit s = .next s)

/-- A committed relay stays energized while the button is released (41_accessory.md section 4): in JUST, any number of
ticks with the accessory input released leaves the phase, the selection and every accessory relay as they were. -/
def Obligations.CommittedRelayStays : Prop :=
  ∀ (s : State) (ws : List RawIn), Settled s → s.mode = .main → s.cphase = 1 →
    (∀ w ∈ ws, pressed w .accessory = false) →
    ∃ t : State, (observeTicks ws s).2 = .next t ∧ t.cphase = 1 ∧ t.sel = s.sel ∧
      ∀ k : Pick, t.out.get (.relayAcc k) = s.out.get (.relayAcc k)

/-- Commit timing (41_accessory.md section 5: derived in the spec): with a selection in WAIT and no further accessory
edge, the button held on or released, the machine is in JUST after n ticks exactly when the rollovers before the n-th
tick's phase 5 bring `elapsed` above 10; until then every accessory relay is off, and from then on exactly the selected
one is on. -/
def Obligations.CommitTiming : Prop :=
  ∀ (s : State) (k : Pick) (ws : List RawIn), Settled s → s.mode = .main →
    s.cphase = 0 → s.sel = k.code → NoAccessoryEdge ws s → ws ≠ [] →
    ∃ t : State, (observeTicks ws s).2 = .next t ∧ t.sel = k.code ∧
      t.cphase =
        (if 10 < s.elapsed.toNat + (s.pace.toNat + (ws.length - 1)) / (Config.hardware.paceLimit + 1) then 1 else 0) ∧
      ∀ j : Pick, t.out.get (.relayAcc j) = decide (t.cphase = 1 ∧ j = k)

/-! ### Blink scheduler -/

/-- `SET_FAST_BLINK` (R170; decision D14): up to 63 repeats the whole byte becomes twice the repeats, and nothing else
changes. That a request above 63 is refused is the rule's; that the refusal is a next state with the mark set and
nothing else changed is the model's choice (log 6). -/
def Obligations.SetFastBlinkResult : Prop :=
  ∀ (ch : Channel) (n : Nat) (s : State),
    (n ≤ 63 → ∃ t : State, exec (.setFastBlink ch n) s = .next t ∧
      WritesOnly s.blink t.blink ch (BitVec.ofNat 8 (2 * n)) ∧ t = { s with blink := t.blink }) ∧
    (63 < n → exec (.setFastBlink ch n) s = .next { s with refused := some .blinkRepeatsRange })

/-- `SET_SLOW_BLINK` (R171; decision D14): as the fast request, with bit 7 set. The form of the refusal above 63 is the
model's choice (log 6). -/
def Obligations.SetSlowBlinkResult : Prop :=
  ∀ (ch : Channel) (n : Nat) (s : State),
    (n ≤ 63 → ∃ t : State, exec (.setSlowBlink ch n) s = .next t ∧
      WritesOnly s.blink t.blink ch (BitVec.ofNat 8 (2 * n) ||| 0x80) ∧ t = { s with blink := t.blink }) ∧
    (63 < n → exec (.setSlowBlink ch n) s = .next { s with refused := some .blinkRepeatsRange })

/-- `PACE_ADVANCE` (R173; decision D11): `pace` goes up by 1 in its register's width and nothing else changes; under the
guard `pace + 1 <= PACE_LIMIT` the register does not wrap, at the hardware's limit and width and at every other that R8
accepts. The result beyond the guard, where R173 does not select the operation, is the model's choice (log 2, log 7). -/
def Obligations.PaceAdvanceResult : Prop :=
  (∀ s : State, exec .paceAdvance s = .next { s with pace := s.pace + 1 }) ∧
  ∀ (c : Config) (pace : BitVec c.paceBits), pace.toNat + 1 ≤ c.paceLimit → (pace + 1).toNat = pace.toNat + 1

/-- `PACE_ROLLOVER` (R174; decisions D11, D12): `pace` 0, `parity` and `elapsed` up by 1 modulo 256; then every channel
whose count is not 0 and which is fast, or slow with the new parity even, is written the level of its count's parity
and counts down by 1 with its slow flag kept; every other channel keeps its byte and its level; the writes come in the
order L, V, D, A; nothing else changes. -/
def Obligations.PaceRolloverResult : Prop :=
  ∀ s : State, ∃ t : State, exec .paceRollover s = .next t ∧
    t.pace = 0 ∧ t.parity.toNat = (s.parity.toNat + 1) % 256 ∧ t.elapsed.toNat = (s.elapsed.toNat + 1) % 256 ∧
    (∀ ch : Channel,
      (blinkCount (s.blink.get ch) ≠ 0 ∧ (blinkSlow Config.hardware (s.blink.get ch) = false ∨ t.parity.toNat % 2 = 0) →
        (blinkCount (t.blink.get ch)).toNat = (blinkCount (s.blink.get ch)).toNat - 1 ∧
        blinkSlow Config.hardware (t.blink.get ch) = blinkSlow Config.hardware (s.blink.get ch) ∧
        t.out.get (.ind ch) = decide ((blinkCount (s.blink.get ch)).toNat % 2 = 0)) ∧
      (¬ (blinkCount (s.blink.get ch) ≠ 0 ∧
          (blinkSlow Config.hardware (s.blink.get ch) = false ∨ t.parity.toNat % 2 = 0)) →
        t.blink.get ch = s.blink.get ch ∧ t.out.get (.ind ch) = s.out.get (.ind ch))) ∧
    t.writes = s.writes ++
      (Channel.all.filter fun ch =>
        decide (blinkCount (s.blink.get ch) ≠ 0 ∧
          (blinkSlow Config.hardware (s.blink.get ch) = false ∨ t.parity.toNat % 2 = 0))).map
        (fun ch => ⟨.ind ch, decide ((blinkCount (s.blink.get ch)).toNat % 2 = 0)⟩) ∧
    (∀ line : OutLine, (∀ ch, line ≠ .ind ch) → t.out.get line = s.out.get line) ∧
    t = { s with
      pace := t.pace, parity := t.parity, elapsed := t.elapsed, blink := t.blink, out := t.out,
      writes := t.writes }

/-- `BLINK_FAST_STEP` (R177; decision D13), whatever its don't-care bit, on a channel whose count is not 0. -/
def Obligations.BlinkFastStepResult : Prop :=
  ∀ (ch : Channel) (q : Bool) (s : State), blinkCount (s.blink.get ch) ≠ 0 →
    blinkSlow Config.hardware (s.blink.get ch) = false →
    ∃ t : State, exec (.blinkFastStep ch q) s = .next t ∧
      t.out.get (.ind ch) = decide ((s.blink.get ch).toNat % 2 = 0) ∧
      (∀ line, line ≠ .ind ch → t.out.get line = s.out.get line) ∧
      WritesOnly s.blink t.blink ch (s.blink.get ch - 1) ∧
      t.writes = s.writes ++ [⟨.ind ch, t.out.get (.ind ch)⟩] ∧
      t = { s with out := t.out, blink := t.blink, writes := t.writes }

/-- `BLINK_SLOW_STEP` (R178; decisions D12, D13) on a slow channel whose count is not 0: bit 7 stays set. -/
def Obligations.BlinkSlowStepResult : Prop :=
  ∀ (ch : Channel) (s : State), blinkCount (s.blink.get ch) ≠ 0 → blinkSlow Config.hardware (s.blink.get ch) = true →
    ∃ t : State, exec (.blinkSlowStep ch) s = .next t ∧
      t.out.get (.ind ch) = decide ((s.blink.get ch).toNat % 2 = 0) ∧
      (∀ line, line ≠ .ind ch → t.out.get line = s.out.get line) ∧
      WritesOnly s.blink t.blink ch (s.blink.get ch - 1) ∧ blinkSlow Config.hardware (t.blink.get ch) = true ∧
      t.writes = s.writes ++ [⟨.ind ch, t.out.get (.ind ch)⟩] ∧
      t = { s with out := t.out, blink := t.blink, writes := t.writes }

/-- `BLINK_SLOW_SKIP` and `BLINK_IDLE` write nothing (R179, R180), whatever the don't-care bits. -/
def Obligations.BlinkSkipAndIdleWriteNothing : Prop :=
  ∀ (ch : Channel) (slow q : Bool) (s : State),
    exec (.blinkSlowSkip ch) s = .next s ∧ exec (.blinkIdle ch slow q) s = .next s

/-- The rollover period (43_blink.md section 2: derived in the spec). A tick takes `pace` to its successor modulo
PACE_LIMIT + 1, and `parity` goes up by 1 modulo 256 exactly when that is 0. So after n ticks of any run from a main
boot, `pace` is n modulo PACE_LIMIT + 1 and `parity` counts the rollovers modulo 256. -/
def Obligations.RolloverPeriod : Prop :=
  (∀ (raw : RawIn) (s : State), Ready s → PaceBounded s.toPanel →
    ∃ t : State, exec (.tick raw) s = .next t ∧
      t.pace.toNat = (s.pace.toNat + 1) % (Config.hardware.paceLimit + 1) ∧
      t.parity.toNat = (s.parity.toNat + if t.pace.toNat = 0 then 1 else 0) % 256) ∧
  ∀ (sample : RawIn) (ws : List RawIn), sample.getLsbD 1 = true →
    ∃ t : State, (observeRun sample ws).2 = .next t ∧
      t.pace.toNat = ws.length % (Config.hardware.paceLimit + 1) ∧
      t.parity.toNat = ws.length / (Config.hardware.paceLimit + 1) % 256

/-- A fast blink of n repeats (43_blink.md section 4: derived in the spec): over k rollovers the indicator is written
1, 0, 1, 0, ... once per rollover, 2n times at most, and the count goes down to 0 and stays. -/
def Obligations.FastBlinkSequence : Prop :=
  ∀ (ch : Channel) (n k : Nat) (s : State), n ≤ 63 →
    ∃ t : State, perform (.setFastBlink ch n :: List.replicate k .paceRollover) s = .next t ∧
      (blinkCount (t.blink.get ch)).toNat = 2 * n - k ∧ blinkSlow Config.hardware (t.blink.get ch) = false ∧
      t.writes.filter (fun w => decide (w.line = .ind ch)) =
        s.writes.filter (fun w => decide (w.line = .ind ch)) ++
          (List.range (min k (2 * n))).map (fun j => ⟨.ind ch, decide (j % 2 = 0)⟩)

/-- A slow blink of n repeats (43_blink.md section 4: derived in the spec) acts on the rollovers with even new parity
only, so after k rollovers it has acted (k + parity) / 2 times, 2n times at most: it completes on the (4n - 1)th
rollover if the first has even new parity and on the 4n-th if the first has odd new parity. -/
def Obligations.SlowBlinkSequence : Prop :=
  ∀ (ch : Channel) (n k : Nat) (s : State), n ≤ 63 →
    ∃ t : State, perform (.setSlowBlink ch n :: List.replicate k .paceRollover) s = .next t ∧
      (blinkCount (t.blink.get ch)).toNat = 2 * n - (k + s.parity.toNat % 2) / 2 ∧
      blinkSlow Config.hardware (t.blink.get ch) = true ∧
      t.writes.filter (fun w => decide (w.line = .ind ch)) =
        s.writes.filter (fun w => decide (w.line = .ind ch)) ++
          (List.range (min ((k + s.parity.toNat % 2) / 2) (2 * n))).map (fun j => ⟨.ind ch, decide (j % 2 = 0)⟩)

/-! ### Whole-machine rules -/

/-- Each register is written only by the operations the spec names (10_state.md sections 2 to 6). -/
def Obligations.RegisterWriters : Prop :=
  ∀ (i : Instr) (s t : State), exec i s = .next t → ¬ isExternal i →
    (t.cnt ≠ s.cnt ∨ t.held ≠ s.held → ∃ ch, i = .debPress ch ∨ i = .debRelease ch) ∧
    (t.oldHeld ≠ s.oldHeld → (∃ ch, i = .debPress ch ∨ i = .debRelease ch) ∨ i = .lightsOn ∨ i = .lightsOff ∨
      i = .valetPulse ∨ i = .doorsRise ∨ i = .doorsFall ∨ i = .accSelect ∨ i = .accCancel ∨ i = .accEdgeLocked) ∧
    (t.blink ≠ s.blink → (∃ ch n, i = .setFastBlink ch n ∨ i = .setSlowBlink ch n) ∨ i = .lightsOn ∨
      i = .lightsOff ∨ i = .valetPulse ∨ i = .doorsRise ∨ i = .doorsFall ∨ i = .paceRollover ∨
      (∃ ch q, i = .blinkFastStep ch q) ∨ ∃ ch, i = .blinkSlowStep ch) ∧
    (t.pace ≠ s.pace → i = .paceAdvance ∨ i = .paceRollover) ∧
    (t.parity ≠ s.parity → i = .paceRollover) ∧
    (t.sel ≠ s.sel → i = .accSelect ∨ i = .accCancel) ∧
    (t.cphase ≠ s.cphase → i = .accCancel ∨ i = .accRearm ∨ i = .accCommit) ∧
    (t.elapsed ≠ s.elapsed → i = .accSelect ∨ i = .paceRollover) ∧
    (t.lightsOn ≠ s.lightsOn → i = .lightsOn ∨ i = .lightsOff) ∧
    (t.refused ≠ s.refused → ∃ ch n, i = .setFastBlink ch n ∨ i = .setSlowBlink ch n) ∧
    t.mode = s.mode ∧ t.wdtKick = s.wdtKick ∧ t.stimulus = s.stimulus ∧ t.envCount = s.envCount

/-- Each output line is written by one component only (10_state.md section 6). -/
def Obligations.OutputLineWriters : Prop :=
  ∀ (i : Instr) (s t : State), exec i s = .next t → ¬ isExternal i →
    (∀ ch, t.out.get (.ind ch) ≠ s.out.get (.ind ch) →
      i = .paceRollover ∨ (∃ q, i = .blinkFastStep ch q) ∨ i = .blinkSlowStep ch) ∧
    (∀ k, t.out.get (.selLed k) ≠ s.out.get (.selLed k) → i = .accSelect ∨ i = .accCancel ∨ i = .accCommit) ∧
    (t.out.get .relayLights ≠ s.out.get .relayLights → i = .lightsOn ∨ i = .lightsOff) ∧
    (∀ k, t.out.get (.relayAcc k) ≠ s.out.get (.relayAcc k) → i = .accCancel ∨ i = .accCommit)

/-- No operation writes the reserved phase (30_encoding.md section 3): from any state outside it, no step enters it. -/
def Obligations.ReservedPhaseNeverEntered : Prop :=
  ∀ s t : State, s.cphase ≠ 3 → step s = .next t → t.cphase ≠ 3

/-! ### The state between two ticks -/

/-- The state after reset is settled. The premises of the next statements are this predicate. -/
def Obligations.ResetIsSettled : Prop :=
  Settled State.reset

/-- Every step of the environment, a tick with any word or a boot with any sample, keeps the settled facts: those of
R106, R128, R129, R175 and R184, which the spec derives for every reachable state, here kept from any state that has
them. -/
def Obligations.StepKeepsSettled : Prop :=
  ∀ s t : State, Settled s → step s = .next t → Settled t

/-- A settled state in MAIN mode has a next step, whatever the environment queued or chooses: no port operation faults
(60_exceptions.md section 1). -/
def Obligations.SettledStepsComplete : Prop :=
  ∀ s : State, Settled s → s.mode = .main → ∃ t : State, step s = .next t

/-- At most one accessory relay is ever energized, and then it is the selected one (41_accessory.md section 5: derived
in the spec): so after every step, a tick with any word or a boot with any sample, from a settled state. -/
def Obligations.AtMostOneRelay : Prop :=
  ∀ s t : State, Settled s → step s = .next t →
    OneRelay t.toPanel ∧ ∀ k : Pick, t.out.get (.relayAcc k) = true → t.sel = k.code

/-- In a tick from a settled state the edge operation of the locked phase is never selected, and a falling edge is
possible on doors only (41_accessory.md section 5, 40_debounce.md section 4: derived in the spec). -/
def Obligations.UnreachableSelections : Prop :=
  ∀ (raw : RawIn) (s : State), Settled s →
    decode .gAe (vecAe (togglePhases Config.hardware (debouncePhase Config.hardware raw s.toPanel.beginTick))) ≠
      .op .accEdgeLocked ∧
    ∀ ch, fall (debouncePhase Config.hardware raw s.toPanel.beginTick) ch = true → ch = .doors

/-- A button held through a reset is a fresh tap (41_accessory.md section 5: derived in the spec; the test program P4):
after any main boot, 160 ticks with the accessory pressed select Pick1, in WAIT, with every accessory relay off. -/
def Obligations.HeldThroughResetSelectsPick1 : Prop :=
  ∀ (s : State) (sample : RawIn) (ws : List RawIn), sample.getLsbD 1 = true → ws.length = 160 →
    (∀ w ∈ ws, pressed w .accessory = true) →
    ∃ t : State, (observeTicks ws (s.boot sample)).2 = .next t ∧ t.sel = 1 ∧ t.cphase = 0 ∧
      t.out.get (.selLed .pick1) = true ∧ ∀ k : Pick, t.out.get (.relayAcc k) = false
end

