-- ==== Sys2Proof/Laws/Config.lean ====
section
/-! SUPPORT. The constants of the hardware's configuration. -/

namespace Sys2Proof.Config

@[simp] theorem hardware_threshold : hardware.threshold = 160#8 := rfl
@[simp] theorem hardware_releaseLevel : hardware.releaseLevel = 10#8 := rfl
@[simp] theorem hardware_commitLevel : hardware.commitLevel = 10#8 := rfl
@[simp] theorem hardware_nCh : hardware.nCh = 4 := rfl
@[simp] theorem hardware_nSel : hardware.nSel = 3 := rfl
@[simp] theorem hardware_lightsOnFast : hardware.lightsOnFast = 4#6 := rfl
@[simp] theorem hardware_lightsOffSlow : hardware.lightsOffSlow = 2#6 := rfl
@[simp] theorem hardware_valetSlow : hardware.valetSlow = 10#6 := rfl
@[simp] theorem hardware_doorsRiseFast : hardware.doorsRiseFast = 8#6 := rfl
@[simp] theorem hardware_doorsFallSlow : hardware.doorsFallSlow = 3#6 := rfl
@[simp] theorem hardware_slowFlag : hardware.slowFlag = 0x80#8 := rfl

/-- The condition of R8, of every configuration. -/
theorem pace_fits (c : Config) : c.paceLimit + 2 ≤ 2 ^ c.paceBits := of_decide_eq_true c.accepted

end Sys2Proof.Config
end

