-- ==== Sys2Proof/Laws/Decode.lean ====
section
/-! SUPPORT. What each guard vector selects (spec/30_encoding.md R83, R84). -/

namespace Sys2Proof

@[simp] theorem Channel.ofIndex_index (ch : Channel) : Channel.ofIndex ch.index = ch := by
  cases ch <;> rfl

@[simp] theorem Channel.index_ofIndex (b : BitVec 2) : (Channel.ofIndex b).index = b := by
  revert b; decide

theorem Channel.mem_all (ch : Channel) : ch ∈ Channel.all := by
  cases ch <;> decide

theorem Pick.ofSel_eq_some {sel : BitVec 2} {k : Pick} : Pick.ofSel sel = some k ↔ k.code = sel := by
  revert sel; cases k <;> decide

theorem Pick.ofSel_eq_none {sel : BitVec 2} : Pick.ofSel sel = none ↔ sel = 0 := by
  revert sel; decide

@[simp] theorem Pick.code_ne_zero (k : Pick) : k.code ≠ 0#2 := by
  cases k <;> decide

theorem Pick.code_injective {j k : Pick} (h : j.code = k.code) : j = k := by
  revert h; cases j <;> cases k <;> decide

/-- A word that fits its format is decoded by the format's patterns. -/
theorem decode_of_fits {f : Format} {w : Word} (h : w.toNat < 2 ^ f.width) : decode f w = decodeFits f w := by
  simp [decode, h]

/-- A word wider than its format is rejected. -/
theorem decode_of_wide {f : Format} {w : Word} (h : ¬ w.toNat < 2 ^ f.width) :
    decode f w = .rejected .tooWide := by
  simp [decode, h]

end Sys2Proof

namespace Sys2Proof.Machine

@[simp] theorem decode_vecDeb (ch : Channel) (press : Bool) :
    decode .gDeb (vecDeb ch press) = .op (if press then .debPress ch else .debRelease ch) := by
  cases ch <;> cases press <;> decide

theorem decode_gLt_bits (r o : Bool) :
    decode .gLt (wordOfBits [r, o]) = if r then (if o then .op .lightsOff else .op .lightsOn) else .nothing := by
  cases r <;> cases o <;> decide

theorem decode_gVt_bits (r : Bool) :
    decode .gVt (wordOfBits [r]) = if r then .op .valetPulse else .nothing := by
  cases r <;> decide

theorem decode_gDt_bits (r f : Bool) :
    decode .gDt (wordOfBits [r, f]) =
      if r then (if f then .rejected .unreachableVector else .op .doorsRise)
      else if f then .op .doorsFall else .nothing := by
  cases r <;> cases f <;> decide

theorem decode_gAe_bits (r : Bool) (p : BitVec 2) :
    decode .gAe (wordOfBits (r :: phaseBits p)) =
      if r then
        (if p = phaseWait then .op .accSelect else if p = phaseJust then .op .accCancel
          else if p = phaseLock then .op .accEdgeLocked else .rejected .unreachableVector)
      else .nothing := by
  revert r p; decide

theorem decode_gAr_bits (h : Bool) (p : BitVec 2) :
    decode .gAr (wordOfBits (h :: phaseBits p)) =
      if h = false ∧ p = phaseLock then .op .accRearm else .nothing := by
  revert h p; decide

theorem decode_gAc_bits (p : BitVec 2) (z e : Bool) :
    decode .gAc (wordOfBits (phaseBits p ++ [z, e])) =
      if p = phaseWait ∧ z = true ∧ e = true then .op .accCommit else .nothing := by
  revert p z e; decide

theorem decode_gPs_bits (o : Bool) :
    decode .gPs (wordOfBits [o]) = if o then .op .paceRollover else .op .paceAdvance := by
  cases o <;> decide

theorem decode_gBc_bits (ch : Channel) (n s q : Bool) :
    decode (.gBc ch) (wordOfBits [n, s, q]) =
      if n then
        (if s then (if q then .op (.blinkSlowSkip ch) else .op (.blinkSlowStep ch))
          else .op (.blinkFastStep ch q))
      else .op (.blinkIdle ch s q) := by
  revert ch n s q
  intro ch n s q
  cases ch <;> cases n <;> cases s <;> cases q <;> decide

end Sys2Proof.Machine
end

