-- ==== Sys2Proof/Laws/State.lean ====
section
/-! SUPPORT. The small lemmas of the state: what each named update does to each field, and reading back a written
channel, pick or line. -/

namespace Sys2Proof.Machine

open Panel

variable {w : Nat} (s : Panel w)

/-! ### `setCnt` -/

@[simp] theorem setCnt_cnt (ch : Channel) (n : Byte) : (s.setCnt ch n).cnt = s.cnt.set ch n := rfl
@[simp] theorem setCnt_held (ch : Channel) (n : Byte) : (s.setCnt ch n).held = s.held := rfl
@[simp] theorem setCnt_oldHeld (ch : Channel) (n : Byte) : (s.setCnt ch n).oldHeld = s.oldHeld := rfl
@[simp] theorem setCnt_blink (ch : Channel) (n : Byte) : (s.setCnt ch n).blink = s.blink := rfl
@[simp] theorem setCnt_pace (ch : Channel) (n : Byte) : (s.setCnt ch n).pace = s.pace := rfl
@[simp] theorem setCnt_parity (ch : Channel) (n : Byte) : (s.setCnt ch n).parity = s.parity := rfl
@[simp] theorem setCnt_sel (ch : Channel) (n : Byte) : (s.setCnt ch n).sel = s.sel := rfl
@[simp] theorem setCnt_cphase (ch : Channel) (n : Byte) : (s.setCnt ch n).cphase = s.cphase := rfl
@[simp] theorem setCnt_elapsed (ch : Channel) (n : Byte) : (s.setCnt ch n).elapsed = s.elapsed := rfl
@[simp] theorem setCnt_lightsOn (ch : Channel) (n : Byte) : (s.setCnt ch n).lightsOn = s.lightsOn := rfl
@[simp] theorem setCnt_out (ch : Channel) (n : Byte) : (s.setCnt ch n).out = s.out := rfl
@[simp] theorem setCnt_mode (ch : Channel) (n : Byte) : (s.setCnt ch n).mode = s.mode := rfl
@[simp] theorem setCnt_refused (ch : Channel) (n : Byte) : (s.setCnt ch n).refused = s.refused := rfl
@[simp] theorem setCnt_writes (ch : Channel) (n : Byte) : (s.setCnt ch n).writes = s.writes := rfl
@[simp] theorem setCnt_beeps (ch : Channel) (n : Byte) : (s.setCnt ch n).beeps = s.beeps := rfl
@[simp] theorem setCnt_wdtKick (ch : Channel) (n : Byte) : (s.setCnt ch n).wdtKick = s.wdtKick := rfl

/-! ### `setHeld` -/

@[simp] theorem setHeld_cnt (ch : Channel) (b : Bool) : (s.setHeld ch b).cnt = s.cnt := rfl
@[simp] theorem setHeld_held (ch : Channel) (b : Bool) : (s.setHeld ch b).held = s.held.set ch b := rfl
@[simp] theorem setHeld_oldHeld (ch : Channel) (b : Bool) : (s.setHeld ch b).oldHeld = s.oldHeld := rfl
@[simp] theorem setHeld_blink (ch : Channel) (b : Bool) : (s.setHeld ch b).blink = s.blink := rfl
@[simp] theorem setHeld_pace (ch : Channel) (b : Bool) : (s.setHeld ch b).pace = s.pace := rfl
@[simp] theorem setHeld_parity (ch : Channel) (b : Bool) : (s.setHeld ch b).parity = s.parity := rfl
@[simp] theorem setHeld_sel (ch : Channel) (b : Bool) : (s.setHeld ch b).sel = s.sel := rfl
@[simp] theorem setHeld_cphase (ch : Channel) (b : Bool) : (s.setHeld ch b).cphase = s.cphase := rfl
@[simp] theorem setHeld_elapsed (ch : Channel) (b : Bool) : (s.setHeld ch b).elapsed = s.elapsed := rfl
@[simp] theorem setHeld_lightsOn (ch : Channel) (b : Bool) : (s.setHeld ch b).lightsOn = s.lightsOn := rfl
@[simp] theorem setHeld_out (ch : Channel) (b : Bool) : (s.setHeld ch b).out = s.out := rfl
@[simp] theorem setHeld_mode (ch : Channel) (b : Bool) : (s.setHeld ch b).mode = s.mode := rfl
@[simp] theorem setHeld_refused (ch : Channel) (b : Bool) : (s.setHeld ch b).refused = s.refused := rfl
@[simp] theorem setHeld_writes (ch : Channel) (b : Bool) : (s.setHeld ch b).writes = s.writes := rfl
@[simp] theorem setHeld_beeps (ch : Channel) (b : Bool) : (s.setHeld ch b).beeps = s.beeps := rfl
@[simp] theorem setHeld_wdtKick (ch : Channel) (b : Bool) : (s.setHeld ch b).wdtKick = s.wdtKick := rfl

/-! ### `setOldHeld` -/

@[simp] theorem setOldHeld_cnt (ch : Channel) (b : Bool) : (s.setOldHeld ch b).cnt = s.cnt := rfl
@[simp] theorem setOldHeld_held (ch : Channel) (b : Bool) : (s.setOldHeld ch b).held = s.held := rfl
@[simp] theorem setOldHeld_oldHeld (ch : Channel) (b : Bool) :
    (s.setOldHeld ch b).oldHeld =
      s.oldHeld.set ch b := rfl
@[simp] theorem setOldHeld_blink (ch : Channel) (b : Bool) : (s.setOldHeld ch b).blink = s.blink := rfl
@[simp] theorem setOldHeld_pace (ch : Channel) (b : Bool) : (s.setOldHeld ch b).pace = s.pace := rfl
@[simp] theorem setOldHeld_parity (ch : Channel) (b : Bool) : (s.setOldHeld ch b).parity = s.parity := rfl
@[simp] theorem setOldHeld_sel (ch : Channel) (b : Bool) : (s.setOldHeld ch b).sel = s.sel := rfl
@[simp] theorem setOldHeld_cphase (ch : Channel) (b : Bool) : (s.setOldHeld ch b).cphase = s.cphase := rfl
@[simp] theorem setOldHeld_elapsed (ch : Channel) (b : Bool) : (s.setOldHeld ch b).elapsed = s.elapsed := rfl
@[simp] theorem setOldHeld_lightsOn (ch : Channel) (b : Bool) : (s.setOldHeld ch b).lightsOn = s.lightsOn := rfl
@[simp] theorem setOldHeld_out (ch : Channel) (b : Bool) : (s.setOldHeld ch b).out = s.out := rfl
@[simp] theorem setOldHeld_mode (ch : Channel) (b : Bool) : (s.setOldHeld ch b).mode = s.mode := rfl
@[simp] theorem setOldHeld_refused (ch : Channel) (b : Bool) : (s.setOldHeld ch b).refused = s.refused := rfl
@[simp] theorem setOldHeld_writes (ch : Channel) (b : Bool) : (s.setOldHeld ch b).writes = s.writes := rfl
@[simp] theorem setOldHeld_beeps (ch : Channel) (b : Bool) : (s.setOldHeld ch b).beeps = s.beeps := rfl
@[simp] theorem setOldHeld_wdtKick (ch : Channel) (b : Bool) : (s.setOldHeld ch b).wdtKick = s.wdtKick := rfl

/-! ### `setBlink` -/

@[simp] theorem setBlink_cnt (ch : Channel) (b : Byte) : (s.setBlink ch b).cnt = s.cnt := rfl
@[simp] theorem setBlink_held (ch : Channel) (b : Byte) : (s.setBlink ch b).held = s.held := rfl
@[simp] theorem setBlink_oldHeld (ch : Channel) (b : Byte) : (s.setBlink ch b).oldHeld = s.oldHeld := rfl
@[simp] theorem setBlink_blink (ch : Channel) (b : Byte) : (s.setBlink ch b).blink = s.blink.set ch b := rfl
@[simp] theorem setBlink_pace (ch : Channel) (b : Byte) : (s.setBlink ch b).pace = s.pace := rfl
@[simp] theorem setBlink_parity (ch : Channel) (b : Byte) : (s.setBlink ch b).parity = s.parity := rfl
@[simp] theorem setBlink_sel (ch : Channel) (b : Byte) : (s.setBlink ch b).sel = s.sel := rfl
@[simp] theorem setBlink_cphase (ch : Channel) (b : Byte) : (s.setBlink ch b).cphase = s.cphase := rfl
@[simp] theorem setBlink_elapsed (ch : Channel) (b : Byte) : (s.setBlink ch b).elapsed = s.elapsed := rfl
@[simp] theorem setBlink_lightsOn (ch : Channel) (b : Byte) : (s.setBlink ch b).lightsOn = s.lightsOn := rfl
@[simp] theorem setBlink_out (ch : Channel) (b : Byte) : (s.setBlink ch b).out = s.out := rfl
@[simp] theorem setBlink_mode (ch : Channel) (b : Byte) : (s.setBlink ch b).mode = s.mode := rfl
@[simp] theorem setBlink_refused (ch : Channel) (b : Byte) : (s.setBlink ch b).refused = s.refused := rfl
@[simp] theorem setBlink_writes (ch : Channel) (b : Byte) : (s.setBlink ch b).writes = s.writes := rfl
@[simp] theorem setBlink_beeps (ch : Channel) (b : Byte) : (s.setBlink ch b).beeps = s.beeps := rfl
@[simp] theorem setBlink_wdtKick (ch : Channel) (b : Byte) : (s.setBlink ch b).wdtKick = s.wdtKick := rfl

/-! ### `putBlink` -/

@[simp] theorem putBlink_cnt (c : Config) (ch : Channel) (slow : Bool) (r : BitVec 6) :
    (s.putBlink c ch slow r).cnt =
      s.cnt := rfl
@[simp] theorem putBlink_held (c : Config) (ch : Channel) (slow : Bool) (r : BitVec 6) :
    (s.putBlink c ch slow r).held =
      s.held := rfl
@[simp] theorem putBlink_oldHeld (c : Config) (ch : Channel) (slow : Bool) (r : BitVec 6) :
    (s.putBlink c ch slow r).oldHeld =
      s.oldHeld := rfl
@[simp] theorem putBlink_blink (c : Config) (ch : Channel) (slow : Bool) (r : BitVec 6) :
    (s.putBlink c ch slow r).blink =
      s.blink.set ch (requestByte c slow r) := rfl
@[simp] theorem putBlink_pace (c : Config) (ch : Channel) (slow : Bool) (r : BitVec 6) :
    (s.putBlink c ch slow r).pace =
      s.pace := rfl
@[simp] theorem putBlink_parity (c : Config) (ch : Channel) (slow : Bool) (r : BitVec 6) :
    (s.putBlink c ch slow r).parity =
      s.parity := rfl
@[simp] theorem putBlink_sel (c : Config) (ch : Channel) (slow : Bool) (r : BitVec 6) :
    (s.putBlink c ch slow r).sel =
      s.sel := rfl
@[simp] theorem putBlink_cphase (c : Config) (ch : Channel) (slow : Bool) (r : BitVec 6) :
    (s.putBlink c ch slow r).cphase =
      s.cphase := rfl
@[simp] theorem putBlink_elapsed (c : Config) (ch : Channel) (slow : Bool) (r : BitVec 6) :
    (s.putBlink c ch slow r).elapsed =
      s.elapsed := rfl
@[simp] theorem putBlink_lightsOn (c : Config) (ch : Channel) (slow : Bool) (r : BitVec 6) :
    (s.putBlink c ch slow r).lightsOn =
      s.lightsOn := rfl
@[simp] theorem putBlink_out (c : Config) (ch : Channel) (slow : Bool) (r : BitVec 6) :
    (s.putBlink c ch slow r).out =
      s.out := rfl
@[simp] theorem putBlink_mode (c : Config) (ch : Channel) (slow : Bool) (r : BitVec 6) :
    (s.putBlink c ch slow r).mode =
      s.mode := rfl
@[simp] theorem putBlink_refused (c : Config) (ch : Channel) (slow : Bool) (r : BitVec 6) :
    (s.putBlink c ch slow r).refused =
      s.refused := rfl
@[simp] theorem putBlink_writes (c : Config) (ch : Channel) (slow : Bool) (r : BitVec 6) :
    (s.putBlink c ch slow r).writes =
      s.writes := rfl
@[simp] theorem putBlink_beeps (c : Config) (ch : Channel) (slow : Bool) (r : BitVec 6) :
    (s.putBlink c ch slow r).beeps =
      s.beeps := rfl
@[simp] theorem putBlink_wdtKick (c : Config) (ch : Channel) (slow : Bool) (r : BitVec 6) :
    (s.putBlink c ch slow r).wdtKick =
      s.wdtKick := rfl

/-! ### `setSel` -/

@[simp] theorem setSel_cnt (v : BitVec 2) : (s.setSel v).cnt = s.cnt := rfl
@[simp] theorem setSel_held (v : BitVec 2) : (s.setSel v).held = s.held := rfl
@[simp] theorem setSel_oldHeld (v : BitVec 2) : (s.setSel v).oldHeld = s.oldHeld := rfl
@[simp] theorem setSel_blink (v : BitVec 2) : (s.setSel v).blink = s.blink := rfl
@[simp] theorem setSel_pace (v : BitVec 2) : (s.setSel v).pace = s.pace := rfl
@[simp] theorem setSel_parity (v : BitVec 2) : (s.setSel v).parity = s.parity := rfl
@[simp] theorem setSel_sel (v : BitVec 2) : (s.setSel v).sel = v := rfl
@[simp] theorem setSel_cphase (v : BitVec 2) : (s.setSel v).cphase = s.cphase := rfl
@[simp] theorem setSel_elapsed (v : BitVec 2) : (s.setSel v).elapsed = s.elapsed := rfl
@[simp] theorem setSel_lightsOn (v : BitVec 2) : (s.setSel v).lightsOn = s.lightsOn := rfl
@[simp] theorem setSel_out (v : BitVec 2) : (s.setSel v).out = s.out := rfl
@[simp] theorem setSel_mode (v : BitVec 2) : (s.setSel v).mode = s.mode := rfl
@[simp] theorem setSel_refused (v : BitVec 2) : (s.setSel v).refused = s.refused := rfl
@[simp] theorem setSel_writes (v : BitVec 2) : (s.setSel v).writes = s.writes := rfl
@[simp] theorem setSel_beeps (v : BitVec 2) : (s.setSel v).beeps = s.beeps := rfl
@[simp] theorem setSel_wdtKick (v : BitVec 2) : (s.setSel v).wdtKick = s.wdtKick := rfl

/-! ### `setCphase` -/

@[simp] theorem setCphase_cnt (v : BitVec 2) : (s.setCphase v).cnt = s.cnt := rfl
@[simp] theorem setCphase_held (v : BitVec 2) : (s.setCphase v).held = s.held := rfl
@[simp] theorem setCphase_oldHeld (v : BitVec 2) : (s.setCphase v).oldHeld = s.oldHeld := rfl
@[simp] theorem setCphase_blink (v : BitVec 2) : (s.setCphase v).blink = s.blink := rfl
@[simp] theorem setCphase_pace (v : BitVec 2) : (s.setCphase v).pace = s.pace := rfl
@[simp] theorem setCphase_parity (v : BitVec 2) : (s.setCphase v).parity = s.parity := rfl
@[simp] theorem setCphase_sel (v : BitVec 2) : (s.setCphase v).sel = s.sel := rfl
@[simp] theorem setCphase_cphase (v : BitVec 2) : (s.setCphase v).cphase = v := rfl
@[simp] theorem setCphase_elapsed (v : BitVec 2) : (s.setCphase v).elapsed = s.elapsed := rfl
@[simp] theorem setCphase_lightsOn (v : BitVec 2) : (s.setCphase v).lightsOn = s.lightsOn := rfl
@[simp] theorem setCphase_out (v : BitVec 2) : (s.setCphase v).out = s.out := rfl
@[simp] theorem setCphase_mode (v : BitVec 2) : (s.setCphase v).mode = s.mode := rfl
@[simp] theorem setCphase_refused (v : BitVec 2) : (s.setCphase v).refused = s.refused := rfl
@[simp] theorem setCphase_writes (v : BitVec 2) : (s.setCphase v).writes = s.writes := rfl
@[simp] theorem setCphase_beeps (v : BitVec 2) : (s.setCphase v).beeps = s.beeps := rfl
@[simp] theorem setCphase_wdtKick (v : BitVec 2) : (s.setCphase v).wdtKick = s.wdtKick := rfl

/-! ### `setElapsed` -/

@[simp] theorem setElapsed_cnt (v : Byte) : (s.setElapsed v).cnt = s.cnt := rfl
@[simp] theorem setElapsed_held (v : Byte) : (s.setElapsed v).held = s.held := rfl
@[simp] theorem setElapsed_oldHeld (v : Byte) : (s.setElapsed v).oldHeld = s.oldHeld := rfl
@[simp] theorem setElapsed_blink (v : Byte) : (s.setElapsed v).blink = s.blink := rfl
@[simp] theorem setElapsed_pace (v : Byte) : (s.setElapsed v).pace = s.pace := rfl
@[simp] theorem setElapsed_parity (v : Byte) : (s.setElapsed v).parity = s.parity := rfl
@[simp] theorem setElapsed_sel (v : Byte) : (s.setElapsed v).sel = s.sel := rfl
@[simp] theorem setElapsed_cphase (v : Byte) : (s.setElapsed v).cphase = s.cphase := rfl
@[simp] theorem setElapsed_elapsed (v : Byte) : (s.setElapsed v).elapsed = v := rfl
@[simp] theorem setElapsed_lightsOn (v : Byte) : (s.setElapsed v).lightsOn = s.lightsOn := rfl
@[simp] theorem setElapsed_out (v : Byte) : (s.setElapsed v).out = s.out := rfl
@[simp] theorem setElapsed_mode (v : Byte) : (s.setElapsed v).mode = s.mode := rfl
@[simp] theorem setElapsed_refused (v : Byte) : (s.setElapsed v).refused = s.refused := rfl
@[simp] theorem setElapsed_writes (v : Byte) : (s.setElapsed v).writes = s.writes := rfl
@[simp] theorem setElapsed_beeps (v : Byte) : (s.setElapsed v).beeps = s.beeps := rfl
@[simp] theorem setElapsed_wdtKick (v : Byte) : (s.setElapsed v).wdtKick = s.wdtKick := rfl

/-! ### `setPace` -/

@[simp] theorem setPace_cnt (v : BitVec w) : (s.setPace v).cnt = s.cnt := rfl
@[simp] theorem setPace_held (v : BitVec w) : (s.setPace v).held = s.held := rfl
@[simp] theorem setPace_oldHeld (v : BitVec w) : (s.setPace v).oldHeld = s.oldHeld := rfl
@[simp] theorem setPace_blink (v : BitVec w) : (s.setPace v).blink = s.blink := rfl
@[simp] theorem setPace_pace (v : BitVec w) : (s.setPace v).pace = v := rfl
@[simp] theorem setPace_parity (v : BitVec w) : (s.setPace v).parity = s.parity := rfl
@[simp] theorem setPace_sel (v : BitVec w) : (s.setPace v).sel = s.sel := rfl
@[simp] theorem setPace_cphase (v : BitVec w) : (s.setPace v).cphase = s.cphase := rfl
@[simp] theorem setPace_elapsed (v : BitVec w) : (s.setPace v).elapsed = s.elapsed := rfl
@[simp] theorem setPace_lightsOn (v : BitVec w) : (s.setPace v).lightsOn = s.lightsOn := rfl
@[simp] theorem setPace_out (v : BitVec w) : (s.setPace v).out = s.out := rfl
@[simp] theorem setPace_mode (v : BitVec w) : (s.setPace v).mode = s.mode := rfl
@[simp] theorem setPace_refused (v : BitVec w) : (s.setPace v).refused = s.refused := rfl
@[simp] theorem setPace_writes (v : BitVec w) : (s.setPace v).writes = s.writes := rfl
@[simp] theorem setPace_beeps (v : BitVec w) : (s.setPace v).beeps = s.beeps := rfl
@[simp] theorem setPace_wdtKick (v : BitVec w) : (s.setPace v).wdtKick = s.wdtKick := rfl

/-! ### `setParity` -/

@[simp] theorem setParity_cnt (v : Byte) : (s.setParity v).cnt = s.cnt := rfl
@[simp] theorem setParity_held (v : Byte) : (s.setParity v).held = s.held := rfl
@[simp] theorem setParity_oldHeld (v : Byte) : (s.setParity v).oldHeld = s.oldHeld := rfl
@[simp] theorem setParity_blink (v : Byte) : (s.setParity v).blink = s.blink := rfl
@[simp] theorem setParity_pace (v : Byte) : (s.setParity v).pace = s.pace := rfl
@[simp] theorem setParity_parity (v : Byte) : (s.setParity v).parity = v := rfl
@[simp] theorem setParity_sel (v : Byte) : (s.setParity v).sel = s.sel := rfl
@[simp] theorem setParity_cphase (v : Byte) : (s.setParity v).cphase = s.cphase := rfl
@[simp] theorem setParity_elapsed (v : Byte) : (s.setParity v).elapsed = s.elapsed := rfl
@[simp] theorem setParity_lightsOn (v : Byte) : (s.setParity v).lightsOn = s.lightsOn := rfl
@[simp] theorem setParity_out (v : Byte) : (s.setParity v).out = s.out := rfl
@[simp] theorem setParity_mode (v : Byte) : (s.setParity v).mode = s.mode := rfl
@[simp] theorem setParity_refused (v : Byte) : (s.setParity v).refused = s.refused := rfl
@[simp] theorem setParity_writes (v : Byte) : (s.setParity v).writes = s.writes := rfl
@[simp] theorem setParity_beeps (v : Byte) : (s.setParity v).beeps = s.beeps := rfl
@[simp] theorem setParity_wdtKick (v : Byte) : (s.setParity v).wdtKick = s.wdtKick := rfl

/-! ### `setLightsOn` -/

@[simp] theorem setLightsOn_cnt (b : Bool) : (s.setLightsOn b).cnt = s.cnt := rfl
@[simp] theorem setLightsOn_held (b : Bool) : (s.setLightsOn b).held = s.held := rfl
@[simp] theorem setLightsOn_oldHeld (b : Bool) : (s.setLightsOn b).oldHeld = s.oldHeld := rfl
@[simp] theorem setLightsOn_blink (b : Bool) : (s.setLightsOn b).blink = s.blink := rfl
@[simp] theorem setLightsOn_pace (b : Bool) : (s.setLightsOn b).pace = s.pace := rfl
@[simp] theorem setLightsOn_parity (b : Bool) : (s.setLightsOn b).parity = s.parity := rfl
@[simp] theorem setLightsOn_sel (b : Bool) : (s.setLightsOn b).sel = s.sel := rfl
@[simp] theorem setLightsOn_cphase (b : Bool) : (s.setLightsOn b).cphase = s.cphase := rfl
@[simp] theorem setLightsOn_elapsed (b : Bool) : (s.setLightsOn b).elapsed = s.elapsed := rfl
@[simp] theorem setLightsOn_lightsOn (b : Bool) : (s.setLightsOn b).lightsOn = b := rfl
@[simp] theorem setLightsOn_out (b : Bool) : (s.setLightsOn b).out = s.out := rfl
@[simp] theorem setLightsOn_mode (b : Bool) : (s.setLightsOn b).mode = s.mode := rfl
@[simp] theorem setLightsOn_refused (b : Bool) : (s.setLightsOn b).refused = s.refused := rfl
@[simp] theorem setLightsOn_writes (b : Bool) : (s.setLightsOn b).writes = s.writes := rfl
@[simp] theorem setLightsOn_beeps (b : Bool) : (s.setLightsOn b).beeps = s.beeps := rfl
@[simp] theorem setLightsOn_wdtKick (b : Bool) : (s.setLightsOn b).wdtKick = s.wdtKick := rfl

/-! ### `emit` -/

@[simp] theorem emit_cnt (line : OutLine) (level : Bool) : (s.emit line level).cnt = s.cnt := rfl
@[simp] theorem emit_held (line : OutLine) (level : Bool) : (s.emit line level).held = s.held := rfl
@[simp] theorem emit_oldHeld (line : OutLine) (level : Bool) : (s.emit line level).oldHeld = s.oldHeld := rfl
@[simp] theorem emit_blink (line : OutLine) (level : Bool) : (s.emit line level).blink = s.blink := rfl
@[simp] theorem emit_pace (line : OutLine) (level : Bool) : (s.emit line level).pace = s.pace := rfl
@[simp] theorem emit_parity (line : OutLine) (level : Bool) : (s.emit line level).parity = s.parity := rfl
@[simp] theorem emit_sel (line : OutLine) (level : Bool) : (s.emit line level).sel = s.sel := rfl
@[simp] theorem emit_cphase (line : OutLine) (level : Bool) : (s.emit line level).cphase = s.cphase := rfl
@[simp] theorem emit_elapsed (line : OutLine) (level : Bool) : (s.emit line level).elapsed = s.elapsed := rfl
@[simp] theorem emit_lightsOn (line : OutLine) (level : Bool) : (s.emit line level).lightsOn = s.lightsOn := rfl
@[simp] theorem emit_out (line : OutLine) (level : Bool) : (s.emit line level).out = s.out.set line level := rfl
@[simp] theorem emit_mode (line : OutLine) (level : Bool) : (s.emit line level).mode = s.mode := rfl
@[simp] theorem emit_refused (line : OutLine) (level : Bool) : (s.emit line level).refused = s.refused := rfl
@[simp] theorem emit_writes (line : OutLine) (level : Bool) :
    (s.emit line level).writes =
      s.writes ++ [⟨line, level⟩] := rfl
@[simp] theorem emit_beeps (line : OutLine) (level : Bool) : (s.emit line level).beeps = s.beeps := rfl
@[simp] theorem emit_wdtKick (line : OutLine) (level : Bool) : (s.emit line level).wdtKick = s.wdtKick := rfl

/-! ### `beep` -/

@[simp] theorem beep_cnt (cause : BeepCause) : (s.beep cause).cnt = s.cnt := rfl
@[simp] theorem beep_held (cause : BeepCause) : (s.beep cause).held = s.held := rfl
@[simp] theorem beep_oldHeld (cause : BeepCause) : (s.beep cause).oldHeld = s.oldHeld := rfl
@[simp] theorem beep_blink (cause : BeepCause) : (s.beep cause).blink = s.blink := rfl
@[simp] theorem beep_pace (cause : BeepCause) : (s.beep cause).pace = s.pace := rfl
@[simp] theorem beep_parity (cause : BeepCause) : (s.beep cause).parity = s.parity := rfl
@[simp] theorem beep_sel (cause : BeepCause) : (s.beep cause).sel = s.sel := rfl
@[simp] theorem beep_cphase (cause : BeepCause) : (s.beep cause).cphase = s.cphase := rfl
@[simp] theorem beep_elapsed (cause : BeepCause) : (s.beep cause).elapsed = s.elapsed := rfl
@[simp] theorem beep_lightsOn (cause : BeepCause) : (s.beep cause).lightsOn = s.lightsOn := rfl
@[simp] theorem beep_out (cause : BeepCause) : (s.beep cause).out = s.out := rfl
@[simp] theorem beep_mode (cause : BeepCause) : (s.beep cause).mode = s.mode := rfl
@[simp] theorem beep_refused (cause : BeepCause) : (s.beep cause).refused = s.refused := rfl
@[simp] theorem beep_writes (cause : BeepCause) : (s.beep cause).writes = s.writes := rfl
@[simp] theorem beep_beeps (cause : BeepCause) : (s.beep cause).beeps = s.beeps ++ [cause] := rfl
@[simp] theorem beep_wdtKick (cause : BeepCause) : (s.beep cause).wdtKick = s.wdtKick := rfl

/-! ### `refuse` -/

@[simp] theorem refuse_cnt (why : RefuseReason) : (s.refuse why).cnt = s.cnt := rfl
@[simp] theorem refuse_held (why : RefuseReason) : (s.refuse why).held = s.held := rfl
@[simp] theorem refuse_oldHeld (why : RefuseReason) : (s.refuse why).oldHeld = s.oldHeld := rfl
@[simp] theorem refuse_blink (why : RefuseReason) : (s.refuse why).blink = s.blink := rfl
@[simp] theorem refuse_pace (why : RefuseReason) : (s.refuse why).pace = s.pace := rfl
@[simp] theorem refuse_parity (why : RefuseReason) : (s.refuse why).parity = s.parity := rfl
@[simp] theorem refuse_sel (why : RefuseReason) : (s.refuse why).sel = s.sel := rfl
@[simp] theorem refuse_cphase (why : RefuseReason) : (s.refuse why).cphase = s.cphase := rfl
@[simp] theorem refuse_elapsed (why : RefuseReason) : (s.refuse why).elapsed = s.elapsed := rfl
@[simp] theorem refuse_lightsOn (why : RefuseReason) : (s.refuse why).lightsOn = s.lightsOn := rfl
@[simp] theorem refuse_out (why : RefuseReason) : (s.refuse why).out = s.out := rfl
@[simp] theorem refuse_mode (why : RefuseReason) : (s.refuse why).mode = s.mode := rfl
@[simp] theorem refuse_refused (why : RefuseReason) : (s.refuse why).refused = some why := rfl
@[simp] theorem refuse_writes (why : RefuseReason) : (s.refuse why).writes = s.writes := rfl
@[simp] theorem refuse_beeps (why : RefuseReason) : (s.refuse why).beeps = s.beeps := rfl
@[simp] theorem refuse_wdtKick (why : RefuseReason) : (s.refuse why).wdtKick = s.wdtKick := rfl

/-! ### `beginTick` -/

@[simp] theorem beginTick_cnt : (s.beginTick).cnt = s.cnt := rfl
@[simp] theorem beginTick_held : (s.beginTick).held = s.held := rfl
@[simp] theorem beginTick_oldHeld : (s.beginTick).oldHeld = s.oldHeld := rfl
@[simp] theorem beginTick_blink : (s.beginTick).blink = s.blink := rfl
@[simp] theorem beginTick_pace : (s.beginTick).pace = s.pace := rfl
@[simp] theorem beginTick_parity : (s.beginTick).parity = s.parity := rfl
@[simp] theorem beginTick_sel : (s.beginTick).sel = s.sel := rfl
@[simp] theorem beginTick_cphase : (s.beginTick).cphase = s.cphase := rfl
@[simp] theorem beginTick_elapsed : (s.beginTick).elapsed = s.elapsed := rfl
@[simp] theorem beginTick_lightsOn : (s.beginTick).lightsOn = s.lightsOn := rfl
@[simp] theorem beginTick_out : (s.beginTick).out = s.out := rfl
@[simp] theorem beginTick_mode : (s.beginTick).mode = s.mode := rfl
@[simp] theorem beginTick_refused : (s.beginTick).refused = s.refused := rfl
@[simp] theorem beginTick_writes : (s.beginTick).writes = [] := rfl
@[simp] theorem beginTick_beeps : (s.beginTick).beeps = [] := rfl
@[simp] theorem beginTick_wdtKick : (s.beginTick).wdtKick = false := rfl

/-! ### `kick` -/

@[simp] theorem kick_cnt : (s.kick).cnt = s.cnt := rfl
@[simp] theorem kick_held : (s.kick).held = s.held := rfl
@[simp] theorem kick_oldHeld : (s.kick).oldHeld = s.oldHeld := rfl
@[simp] theorem kick_blink : (s.kick).blink = s.blink := rfl
@[simp] theorem kick_pace : (s.kick).pace = s.pace := rfl
@[simp] theorem kick_parity : (s.kick).parity = s.parity := rfl
@[simp] theorem kick_sel : (s.kick).sel = s.sel := rfl
@[simp] theorem kick_cphase : (s.kick).cphase = s.cphase := rfl
@[simp] theorem kick_elapsed : (s.kick).elapsed = s.elapsed := rfl
@[simp] theorem kick_lightsOn : (s.kick).lightsOn = s.lightsOn := rfl
@[simp] theorem kick_out : (s.kick).out = s.out := rfl
@[simp] theorem kick_mode : (s.kick).mode = s.mode := rfl
@[simp] theorem kick_refused : (s.kick).refused = s.refused := rfl
@[simp] theorem kick_writes : (s.kick).writes = s.writes := rfl
@[simp] theorem kick_beeps : (s.kick).beeps = s.beeps := rfl
@[simp] theorem kick_wdtKick : (s.kick).wdtKick = true := rfl

/-! ### The loops over the selections -/

/-- Writing a list of lines in order. -/
theorem foldl_emit_frame (line : Pick → OutLine) (level : Pick → Bool) (l : List Pick) :
    l.foldl (fun t k => t.emit (line k) (level k)) s =
      { s with
        out := (l.foldl (fun t k => t.emit (line k) (level k)) s).out,
        writes := s.writes ++ l.map fun k => ⟨line k, level k⟩ } := by
  induction l generalizing s with
  | nil => simp
  | cons k l ih => rw [List.foldl_cons, ih]; simp [emit]

/-- The selection LEDs: the lines' levels and the write list, nothing else (R121, R122). -/
theorem emitLeds_frame (c : Config) (f : Pick → Bool) :
    s.emitLeds c f =
      { s with
        out := (s.emitLeds c f).out, writes := s.writes ++ c.picks.map fun k => ⟨.selLed k, f k⟩ } :=
  foldl_emit_frame s _ _ _

/-- The accessory relays: the lines' levels and the write list, nothing else (R122). -/
theorem releaseRelays_frame (c : Config) :
    s.releaseRelays c =
      { s with
        out := (s.releaseRelays c).out, writes := s.writes ++ c.picks.map fun k => ⟨.relayAcc k, false⟩ } :=
  foldl_emit_frame s _ _ _

/-- What the selection LEDs leave, and their writes. -/
@[simp] theorem emitLeds_keeps (c : Config) (f : Pick → Bool) :
    (s.emitLeds c f).cnt = s.cnt ∧ (s.emitLeds c f).held = s.held ∧ (s.emitLeds c f).oldHeld = s.oldHeld ∧
      (s.emitLeds c f).blink = s.blink ∧ (s.emitLeds c f).pace = s.pace ∧ (s.emitLeds c f).parity = s.parity ∧
      (s.emitLeds c f).sel = s.sel ∧ (s.emitLeds c f).cphase = s.cphase ∧
      (s.emitLeds c f).elapsed = s.elapsed ∧ (s.emitLeds c f).lightsOn = s.lightsOn ∧
      (s.emitLeds c f).mode = s.mode ∧ (s.emitLeds c f).refused = s.refused ∧
      (s.emitLeds c f).beeps = s.beeps ∧ (s.emitLeds c f).wdtKick = s.wdtKick ∧
      (s.emitLeds c f).writes = s.writes ++ c.picks.map fun k => ⟨.selLed k, f k⟩ := by
  rw [emitLeds_frame]
  and_intros <;> rfl

/-- What the accessory relays leave, and their writes. -/
@[simp] theorem releaseRelays_keeps (c : Config) :
    (s.releaseRelays c).cnt = s.cnt ∧ (s.releaseRelays c).held = s.held ∧
      (s.releaseRelays c).oldHeld = s.oldHeld ∧ (s.releaseRelays c).blink = s.blink ∧
      (s.releaseRelays c).pace = s.pace ∧ (s.releaseRelays c).parity = s.parity ∧
      (s.releaseRelays c).sel = s.sel ∧ (s.releaseRelays c).cphase = s.cphase ∧
      (s.releaseRelays c).elapsed = s.elapsed ∧ (s.releaseRelays c).lightsOn = s.lightsOn ∧
      (s.releaseRelays c).mode = s.mode ∧ (s.releaseRelays c).refused = s.refused ∧
      (s.releaseRelays c).beeps = s.beeps ∧ (s.releaseRelays c).wdtKick = s.wdtKick ∧
      (s.releaseRelays c).writes = s.writes ++ c.picks.map fun k => ⟨.relayAcc k, false⟩ := by
  rw [releaseRelays_frame]
  and_intros <;> rfl

/-- The hardware has all four channels. -/
@[simp] theorem hardware_channels : Config.hardware.channels = Channel.all := rfl

/-- The hardware has all three picks. -/
@[simp] theorem hardware_picks : Config.hardware.picks = Pick.all := rfl

/-- The hardware's three selection LEDs. -/
@[simp] theorem emitLeds_out (f : Pick → Bool) :
    (s.emitLeds Config.hardware f).out =
      ((s.out.set (.selLed .pick1) (f .pick1)).set (.selLed .pick2) (f .pick2)).set (.selLed .pick3) (f .pick3) := rfl

/-- The hardware's three accessory relays. -/
@[simp] theorem releaseRelays_out :
    (s.releaseRelays Config.hardware).out =
      ((s.out.set (.relayAcc .pick1) false).set (.relayAcc .pick2) false).set (.relayAcc .pick3) false := rfl

/-! ### Operations on the whole state -/

@[simp] theorem withPanel_toPanel (s : State) (p) : (s.withPanel p).toPanel = p := rfl
@[simp] theorem withPanel_self (s : State) : s.withPanel s.toPanel = s := rfl
@[simp] theorem withPanel_withPanel (s : State) (p q) : (s.withPanel p).withPanel q = s.withPanel q := rfl
@[simp] theorem withPanel_stimulus (s : State) (p) : (s.withPanel p).stimulus = s.stimulus := rfl
@[simp] theorem withPanel_envCount (s : State) (p) : (s.withPanel p).envCount = s.envCount := rfl

/-- A lifted outcome is a next state where the panel's is. -/
theorem lift_eq_next {s t : State} {r : Host.Outcome (Panel Config.hardware.paceBits) Fault Refusal} :
    s.lift r = .next t ↔ ∃ p, r = .next p ∧ t = s.withPanel p := by
  cases r <;> simp [State.lift, eq_comm]

/-! ### Reading back -/

@[simp] theorem PerCh.get_set_self {α : Type} (p : PerCh α) (ch : Channel) (a : α) : (p.set ch a).get ch = a := by
  cases ch <;> rfl

theorem PerCh.get_set_ne {α : Type} (p : PerCh α) (a : α) {ch ch' : Channel} (h : ch' ≠ ch) :
    (p.set ch a).get ch' = p.get ch' := by
  cases ch <;> cases ch' <;> first | rfl | exact absurd rfl h

theorem PerCh.get_set {α : Type} (p : PerCh α) (ch ch' : Channel) (a : α) :
    (p.set ch a).get ch' = if ch' = ch then a else p.get ch' := by
  split
  · subst_vars; simp
  · exact PerCh.get_set_ne p a ‹_›

@[simp] theorem PerCh.get_fill {α : Type} (a : α) (ch : Channel) : (PerCh.fill a).get ch = a := by
  cases ch <;> rfl

/-- Two channel records that agree at every channel are equal. -/
theorem PerCh.ext_get {α : Type} {p q : PerCh α} (h : ∀ ch, p.get ch = q.get ch) : p = q := by
  obtain ⟨a, b, c, d⟩ := p
  obtain ⟨a', b', c', d'⟩ := q
  have := h .lights; have := h .valet; have := h .doors; have := h .accessory
  simp_all [PerCh.get]

@[simp] theorem PerCh.set_get {α : Type} (p : PerCh α) (ch : Channel) : p.set ch (p.get ch) = p := by
  cases ch <;> rfl

@[simp] theorem PerPick.get_set_self {α : Type} (p : PerPick α) (k : Pick) (a : α) : (p.set k a).get k = a := by
  cases k <;> rfl

theorem PerPick.get_set {α : Type} (p : PerPick α) (k k' : Pick) (a : α) :
    (p.set k a).get k' = if k' = k then a else p.get k' := by
  cases k <;> cases k' <;> rfl

@[simp] theorem PerPick.get_fill {α : Type} (a : α) (k : Pick) : (PerPick.fill a).get k = a := by
  cases k <;> rfl

/-- Reading a line after writing one. -/
theorem OutLevels.get_set (o : OutLevels) (line line' : OutLine) (level : Bool) :
    (o.set line level).get line' = if line' = line then level else o.get line' := by
  cases line <;> cases line' <;> simp [OutLevels.set, OutLevels.get, PerCh.get_set, PerPick.get_set]

/-- Two level records that agree on every line are equal. -/
theorem OutLevels.ext_get {o o' : OutLevels} (h : ∀ line, o.get line = o'.get line) : o = o' := by
  obtain ⟨i, l, r, a⟩ := o
  obtain ⟨i', l', r', a'⟩ := o'
  have hi : i = i' := PerCh.ext_get fun ch => h (.ind ch)
  have hr : r = r' := h .relayLights
  obtain ⟨l1, l2, l3⟩ := l
  obtain ⟨m1, m2, m3⟩ := l'
  obtain ⟨a1, a2, a3⟩ := a
  obtain ⟨b1, b2, b3⟩ := a'
  have := h (.selLed .pick1); have := h (.selLed .pick2); have := h (.selLed .pick3)
  have := h (.relayAcc .pick1); have := h (.relayAcc .pick2); have := h (.relayAcc .pick3)
  simp_all [OutLevels.get, PerPick.get]

end Sys2Proof.Machine
end

