-- ==== Sys2Proof/Laws/Phases.lean ====
section
/-! SUPPORT. One lemma per shared operation and per phase: what it can do, said once. -/

namespace Sys2Proof.Machine

variable {w : Nat}

/-! ### Debounce -/

/-- `DEB_PRESS`: everything it writes (R101). -/
theorem debPress_eq (c : Config) (ch : Channel) (s : Panel w) :
    debPress c ch s =
      { s with
        cnt := s.cnt.set ch (countUp c (s.cnt.get ch))
        held := if countUp c (s.cnt.get ch) = c.threshold then s.held.set ch true else s.held
        oldHeld :=
          if ch = .doors ∧ countUp c (s.cnt.get ch) < c.releaseLevel then s.oldHeld.set .doors false
          else s.oldHeld } := by
  simp only [debPress, latchHeld, clearDoorsEdge, setCnt_cnt, PerCh.get_set_self]
  split <;> simp only [setHeld_cnt, setCnt_cnt, PerCh.get_set_self] <;> split <;> rfl

/-- `DEB_RELEASE`: everything it writes (R102). -/
theorem debRelease_eq (c : Config) (ch : Channel) (s : Panel w) :
    debRelease c ch s =
      { s with
        cnt := s.cnt.set ch (countDown (s.cnt.get ch))
        held := if countDown (s.cnt.get ch) < c.releaseLevel then s.held.set ch false else s.held
        oldHeld :=
          if countDown (s.cnt.get ch) < c.releaseLevel ∧ ch ≠ .doors then s.oldHeld.set ch false
          else s.oldHeld } := by
  simp only [debRelease, dropHeld, clearEdge, setCnt_cnt, PerCh.get_set_self]
  by_cases h : countDown (s.cnt.get ch) < c.releaseLevel
  · by_cases hd : ch = .doors
    · subst hd; simp [h]; rfl
    · simp [h, hd]; rfl
  · simp [h]; rfl

/-- A channel's debounce operation is chosen by its input alone (R100). -/
theorem debounceChannel_eq (c : Config) (ch : Channel) (press : Bool) (s : Panel w) :
    debounceChannel c ch press s = if press then debPress c ch s else debRelease c ch s := by
  cases press <;> simp [debounceChannel]

/-- Phase 1 of the hardware (R100). -/
theorem debouncePhase_eq (raw : RawIn) (s : Panel w) :
    debouncePhase Config.hardware raw s =
      debounceChannel Config.hardware .accessory (pressed raw .accessory)
        (debounceChannel Config.hardware .doors (pressed raw .doors)
          (debounceChannel Config.hardware .valet (pressed raw .valet)
            (debounceChannel Config.hardware .lights (pressed raw .lights) s))) := rfl

/-! ### Toggle actions -/

/-- The lights consumer (R150, R151, R155). -/
theorem lightsPhase_eq (c : Config) (s : Panel w) :
    lightsPhase c s =
      if rise s .lights then (if s.lightsOn then lightsOffAction c s else lightsOnAction c s) else s := by
  rw [lightsPhase, vecLt, decode_gLt_bits]
  cases rise s .lights <;> cases s.lightsOn <;> rfl

/-- The valet consumer (R152, R155). -/
theorem valetPhase_eq (c : Config) (s : Panel w) :
    valetPhase c s = if rise s .valet then valetAction c s else s := by
  rw [valetPhase, vecVt, decode_gVt_bits]
  cases rise s .valet <;> rfl

/-- `RISE` and `FALL` exclude each other (R85). -/
theorem rise_fall_exclusive (s : Panel w) (ch : Channel) : (rise s ch && fall s ch) = false := by
  simp only [rise, fall]; cases s.held.get ch <;> simp

/-- The doors consumer (R153, R154, R155). -/
theorem doorsPhase_eq (c : Config) (s : Panel w) :
    doorsPhase c s =
      if rise s .doors then doorsRiseAction c s else if fall s .doors then doorsFallAction c s else s := by
  have h := rise_fall_exclusive s .doors
  rw [doorsPhase, vecDt, decode_gDt_bits]
  cases hr : rise s .doors <;> cases hf : fall s .doors <;> simp_all

/-! ### Accessory -/

/-- `ACC_SELECT`: the fields it may write (R121). -/
theorem selectAction_frame (c : Config) (s : Panel w) :
    selectAction c s =
      { s with
        oldHeld := s.oldHeld.set .accessory true, sel := s.sel + 1, elapsed := 0, out := (selectAction c s).out,
        writes := s.writes ++ c.picks.map fun k => ⟨.selLed k, decide (k.code = s.sel + 1)⟩,
        beeps := s.beeps ++ [.accSelect (s.sel + 1)] } := by
  rw [selectAction, emitLeds_frame]
  rfl

/-- `ACC_CANCEL`: the fields it may write (R122). -/
theorem cancelAction_frame (c : Config) (s : Panel w) :
    cancelAction c s =
      { s with
        oldHeld := s.oldHeld.set .accessory true, sel := 0, cphase := phaseLock, out := (cancelAction c s).out,
        writes :=
          (s.writes ++ c.picks.map fun k => ⟨.selLed k, false⟩) ++ c.picks.map fun k => ⟨.relayAcc k, false⟩,
        beeps := s.beeps ++ [.accCancel] } := by
  rw [cancelAction, releaseRelays_frame, emitLeds_frame]
  rfl

/-- Phase 3 (R120 to R123). -/
theorem edgePhase_eq (c : Config) (s : Panel w) :
    edgePhase c s =
      if rise s .accessory then
        (if s.cphase = phaseWait then selectAction c s else if s.cphase = phaseJust then cancelAction c s
          else if s.cphase = phaseLock then edgeLockedAction s else s)
      else s := by
  rw [edgePhase, vecAe, decode_gAe_bits]
  split <;> rename_i h <;> revert h <;> (repeat' split) <;> simp_all

/-- Phase 4 (R124). -/
theorem rearmPhase_eq (s : Panel w) : rearmPhase s = rearmAction s := by
  rw [rearmPhase, vecAr, decode_gAr_bits, rearmAction]
  by_cases h : s.held.get .accessory = false <;> by_cases h' : s.cphase = phaseLock <;> simp [h, h']

/-- `ACC_COMMIT` on a selection that is a pick (R125). -/
theorem commitAction_eq (c : Config) (s : Panel w) :
    commitAction c s =
      match Pick.ofSel s.sel with
      | some k => if s.cphase = phaseWait ∧ c.commitLevel < s.elapsed then commitOutputs k s else s
      | none => s := rfl

/-- Phase 5 (R125). -/
theorem commitPhase_eq (c : Config) (s : Panel w) : commitPhase c s = commitAction c s := by
  have hz : decide (s.sel ≠ 0) = (Pick.ofSel s.sel).isSome := by
    cases h : Pick.ofSel s.sel with
    | none => simp [Pick.ofSel_eq_none.mp h]
    | some k => simpa using (Pick.ofSel_eq_some.mp h) ▸ k.code_ne_zero
  rw [commitPhase, vecAc, decode_gAc_bits, commitAction, hz, commitDue]
  cases Pick.ofSel s.sel with
  | none => simp
  | some k => by_cases hp : s.cphase = phaseWait <;> by_cases he : c.commitLevel < s.elapsed <;> simp [hp, he]

/-! ### Blink -/

/-- One channel's step on a rollover (R177 to R180): it acts when the count is not 0 and the channel is fast or the
parity is even. -/
theorem channelStep_eq (c : Config) (ch : Channel) (s : Panel w) :
    channelStep c ch s =
      if blinkCount (s.blink.get ch) ≠ 0 ∧ (blinkSlow c (s.blink.get ch) = false ∨ s.parity.getLsbD 0 = false)
      then forceStep ch s else s := by
  rw [channelStep, vecBc, decode_gBc_bits]
  by_cases hn : blinkCount (s.blink.get ch) = 0#7 <;> cases hs : blinkSlow c (s.blink.get ch) <;>
    cases hq : s.parity.getLsbD 0 <;> simp [hn, fastStep, slowStep, slowSkip, idleStep]

/-- `PACE_ROLLOVER` of the hardware (R174, R181). -/
theorem rolloverPace_eq (s : Panel w) :
    rolloverPace Config.hardware s =
      channelStep Config.hardware .accessory
        (channelStep Config.hardware .doors
          (channelStep Config.hardware .valet
            (channelStep Config.hardware .lights (rolloverCounters s)))) := rfl

/-- Phase 6 (R173, R174). -/
theorem blinkPhase_eq (c : Config) (s : Panel c.paceBits) :
    blinkPhase c s = if c.paceLimit < s.pace.toNat + 1 then rolloverPace c s else advancePace s := by
  rw [blinkPhase, vecPs, decode_gPs_bits, rolloverDue]
  by_cases h : c.paceLimit < s.pace.toNat + 1 <;> simp [h]

/-- Under its guard `PACE_ADVANCE` never wraps the register: the condition of R8 leaves room (R8, R173). -/
theorem advancePace_toNat {c : Config} {s : Panel c.paceBits} (h : s.pace.toNat + 1 ≤ c.paceLimit) :
    (advancePace s).pace.toNat = s.pace.toNat + 1 := by
  have := c.pace_fits
  have hp : 1 < 2 ^ c.paceBits := by omega
  have hs : s.pace.toNat + 1 < 2 ^ c.paceBits := by omega
  simp [advancePace, BitVec.toNat_add, Nat.mod_eq_of_lt hp, Nat.mod_eq_of_lt hs]

/-! ### Tick, boot, step -/

/-- What a tick can answer (R200, R221, R222). -/
theorem tickAt_cases {c : Config} {raw : RawIn} {s t : Panel c.paceBits} (h : tickAt c raw s = .next t) :
    s.refused = none ∧
      ((s.mode = .demo ∧ t = s.refuse .demoMode) ∨
       (s.mode ≠ .demo ∧ s.cphase = phaseReserved ∧ t = s.refuse .reservedPhase) ∨
       (s.mode ≠ .demo ∧ s.cphase ≠ phaseReserved ∧ t = tickPhases c raw s)) := by
  rw [tickAt] at h
  split at h
  · cases h
  · rename_i hr
    refine ⟨hr, ?_⟩
    split at h
    · rename_i hm; exact .inl ⟨hm, (Host.Outcome.next.inj h).symm⟩
    · rename_i hm
      split at h
      · rename_i hp; exact .inr (.inl ⟨hm, hp, (Host.Outcome.next.inj h).symm⟩)
      · rename_i hp; exact .inr (.inr ⟨hm, hp, (Host.Outcome.next.inj h).symm⟩)

/-- A tick in MAIN mode, not refused and not in the reserved phase, runs the phases (R200). -/
theorem tickAt_runs {c : Config} {raw : RawIn} {s : Panel c.paceBits} (hr : s.refused = none) (hm : s.mode = .main)
    (hp : s.cphase ≠ phaseReserved) : tickAt c raw s = .next (tickPhases c raw s) := by
  simp [tickAt, hr, hm, hp]

/-- The meaning of `TICK`, where it answers a next state (R200). -/
theorem execTick_cases {raw : RawIn} {s t : State} (h : execTick raw s = .next t) :
    ∃ p, tickAt Config.hardware raw s.toPanel = .next p ∧ t = s.withPanel p :=
  lift_eq_next.mp h

/-- `TICK` in MAIN mode, not refused and not in the reserved phase (R200). -/
theorem execTick_runs {raw : RawIn} {s : State} (hr : s.refused = none) (hm : s.mode = .main)
    (hp : s.cphase ≠ phaseReserved) :
    execTick raw s = .next (s.withPanel (tickPhases Config.hardware raw s.toPanel)) :=
  lift_eq_next.mpr ⟨_, tickAt_runs hr hm hp, rfl⟩

/-- A boot with valet released (R202). -/
theorem boot_main {s : State} {raw : RawIn} (h : raw.getLsbD 1 = true) :
    s.boot raw = { State.reset with stimulus := s.stimulus, envCount := s.envCount } := by
  simp only [State.boot, Panel.boot, h, if_true]; rfl

/-- A boot with valet asserted (R203). -/
theorem boot_demo {s : State} {raw : RawIn} (h : raw.getLsbD 1 = false) :
    s.boot raw =
      { State.reset with
        mode := .demo, refused := some .demoMode, stimulus := s.stimulus, envCount := s.envCount } := by
  simp only [State.boot, Panel.boot, h]; rfl

/-- What a step can answer (R34, R84, R206). -/
theorem step_cases {s t : State} (h : step s = .next t) :
    haltedBy (fetch s).2 (fetch s).1 = none ∧
      ((∃ i, decode (fetch s).1.format (fetch s).1.word = .op i ∧ exec i (fetch s).2 = .next t) ∨
       (decode (fetch s).1.format (fetch s).1.word = .nothing ∧ t = (fetch s).2)) := by
  rw [step] at h
  split at h
  · cases h
  · rename_i hh
    refine ⟨hh, ?_⟩
    split at h
    · rename_i i hi; exact .inl ⟨i, hi, h⟩
    · rename_i hn; exact .inr ⟨hn, (Host.Outcome.next.inj h).symm⟩
    · cases h

/-- A queue with a head is fetched from its head. -/
theorem fetch_cons {s : State} {r : Request} {rest : List Request} (h : s.stimulus = r :: rest) :
    fetch s = (r, { s with stimulus := rest }) := by
  simp [fetch, h]

/-- An empty queue takes the environment's free choice. -/
theorem fetch_nil {s : State} (h : s.stimulus = []) :
    fetch s = (envRequest s.envCount, { s with envCount := s.envCount + 1 }) := by
  simp [fetch, h]

end Sys2Proof.Machine
end

