-- ==== Sys2Proof/Laws/Blink.lean ====
section
/-! SUPPORT. The arithmetic of blink bytes and what one channel step does in numbers (spec/43_blink.md R170 to R181). -/

namespace Sys2Proof.Machine

variable {w : Nat}

/-- A fact about every byte, by its number. -/
theorem byte_cases {P : Byte → Prop} (h : ∀ n < 256, P (BitVec.ofNat 8 n)) (b : Byte) : P b := by
  have := h b.toNat b.isLt
  simpa using this

/-- The byte a request of `n ≤ 63` repeats writes (R170, R171). -/
theorem requestByte_ofNat {n : Nat} (h : n ≤ 63) :
    requestByte Config.hardware false (BitVec.ofNat 6 n) = BitVec.ofNat 8 (2 * n) ∧
      requestByte Config.hardware true (BitVec.ofNat 6 n) = BitVec.ofNat 8 (2 * n) ||| 0x80#8 := by
  have : ∀ n < 64, requestByte Config.hardware false (BitVec.ofNat 6 n) = BitVec.ofNat 8 (2 * n) ∧
      requestByte Config.hardware true (BitVec.ofNat 6 n) = BitVec.ofNat 8 (2 * n) ||| 0x80#8 := by
    decide
  exact this n (by omega)

/-- The count and the rate of a requested byte (R75). -/
theorem blinkCount_requestByte (slow : Bool) (r : BitVec 6) :
    (blinkCount (requestByte Config.hardware slow r)).toNat = 2 * r.toNat ∧
      blinkSlow Config.hardware (requestByte Config.hardware slow r) = slow := by
  revert slow r
  decide

/-- Stepping a byte whose count is not 0 subtracts 1 from it and keeps bit 7 (R177, R178). -/
theorem stepped_byte (b : Byte) (h : blinkCount b ≠ 0) :
    withCount b (blinkCount b - 1) = b - 1 ∧ (!(blinkCount b).getLsbD 0) = decide (b.toNat % 2 = 0) ∧
      blinkSlow Config.hardware (b - 1) = blinkSlow Config.hardware b ∧
      (blinkCount (b - 1)).toNat = (blinkCount b).toNat - 1 ∧
      (blinkCount b).toNat % 2 = b.toNat % 2 := by
  revert h
  revert b
  refine byte_cases ?_
  unfold blinkCount withCount blinkSlow
  decide +kernel

/-- The low bit of a byte is its number's parity. -/
theorem getLsbD_zero_eq_false (b : Byte) : b.getLsbD 0 = false ↔ b.toNat % 2 = 0 := by
  revert b
  refine byte_cases ?_
  decide +kernel

/-- An acting step in numbers (R177, R178). -/
theorem forceStep_eq {ch : Channel} {s : Panel w} (h : blinkCount (s.blink.get ch) ≠ 0) :
    forceStep ch s =
      (s.emit (.ind ch) (decide ((blinkCount (s.blink.get ch)).toNat % 2 = 0))).setBlink ch
        (s.blink.get ch - 1) := by
  obtain ⟨hc, hl, -, -, hp⟩ := stepped_byte _ h
  simp only [forceStep, hc, hl, hp]

/-- One channel's step on a rollover, in numbers (R177 to R180). -/
theorem channelStep_numbers (c : Config) (ch : Channel) (s : Panel w) :
    channelStep c ch s =
      if blinkCount (s.blink.get ch) ≠ 0 ∧ (blinkSlow c (s.blink.get ch) = false ∨ s.parity.toNat % 2 = 0) then
        (s.emit (.ind ch) (decide ((blinkCount (s.blink.get ch)).toNat % 2 = 0))).setBlink ch
          (s.blink.get ch - 1)
      else s := by
  simp only [channelStep_eq, getLsbD_zero_eq_false]
  split
  · rename_i h; exact forceStep_eq h.1
  · rfl

/-- A channel step writes only its own byte and line, and the write list (R181). -/
theorem channelStep_frame (c : Config) (ch : Channel) (s : Panel w) :
    channelStep c ch s =
        { s with
          blink := (channelStep c ch s).blink, out := (channelStep c ch s).out,
          writes := (channelStep c ch s).writes } ∧
      (∀ ch', ch' ≠ ch → (channelStep c ch s).blink.get ch' = s.blink.get ch') ∧
      (∀ line, line ≠ .ind ch → (channelStep c ch s).out.get line = s.out.get line) := by
  rw [channelStep_numbers]
  split
  · refine ⟨rfl, fun ch' h => ?_, fun line h => ?_⟩
    · simp [PerCh.get_set_ne, h]
    · simp [OutLevels.get_set, h]
  · exact ⟨rfl, fun _ _ => rfl, fun _ _ => rfl⟩

/-- Stepping a list of channels leaves every field but the blink bytes, the output lines and the write list, and every
line but the indicators (R174). -/
theorem foldl_channelStep_frame (c : Config) (l : List Channel) (s : Panel w) :
    l.foldl (fun t ch => channelStep c ch t) s =
        { s with
          blink := (l.foldl (fun t ch => channelStep c ch t) s).blink,
          out := (l.foldl (fun t ch => channelStep c ch t) s).out,
          writes := (l.foldl (fun t ch => channelStep c ch t) s).writes } ∧
      ∀ line, (∀ ch, line ≠ .ind ch) →
        (l.foldl (fun t ch => channelStep c ch t) s).out.get line = s.out.get line := by
  induction l generalizing s with
  | nil => exact ⟨rfl, fun _ _ => rfl⟩
  | cons ch l ih =>
    obtain ⟨hf, -, hl⟩ := channelStep_frame c ch s
    simp only [List.foldl_cons]
    refine ⟨?_, fun line h => ((ih _).2 line h).trans (hl line (h ch))⟩
    rw [(ih _).1, hf]

/-- What a rollover leaves of every field but the blink bytes, the indicator lines and the write list (R174). -/
theorem rolloverPace_frame (c : Config) (s : Panel w) :
    rolloverPace c s =
      { s with
        pace := 0, parity := s.parity + 1, elapsed := s.elapsed + 1,
        blink := (rolloverPace c s).blink, out := (rolloverPace c s).out,
        writes := (rolloverPace c s).writes } :=
  (foldl_channelStep_frame c c.channels (rolloverCounters s)).1

/-- A rollover writes indicator lines only (R174). -/
theorem rolloverPace_line (c : Config) (s : Panel w) {line : OutLine} (h : ∀ ch, line ≠ .ind ch) :
    (rolloverPace c s).out.get line = s.out.get line :=
  (foldl_channelStep_frame c c.channels (rolloverCounters s)).2 line h

end Sys2Proof.Machine
end

