-- ==== Sys2Proof/Laws/PerInstr.lean ====
section
/-! SUPPORT. For every operation: a well-formed operation is encoded in its own row of the opcode table
(spec/30_encoding.md R84). -/

namespace Sys2Proof.Laws.EncodesInItsRow

/-- The operation's word has the fixed bits of the row that bears the operation's mnemonic, in that row's format. -/
def Statement (i : Instr) : Prop :=
  i.wellFormed = true →
    ∃ r ∈ opcodeRows, r.mnemonic = i.mnemonic ∧ r.format = (encode i).format.base ∧ r.accepts (encode i).word = true

/-- A row of the table that does for an operation. -/
theorem of_row {i : Instr} {r : Row} (hr : r ∈ opcodeRows) (hm : r.mnemonic = i.mnemonic)
    (hf : r.format = (encode i).format.base) (ha : i.wellFormed = true → r.accepts (encode i).word = true) :
    Statement i :=
  fun h => ⟨r, hr, hm, hf, ha h⟩

/-- A blink request of either speed has its row's fixed bits. -/
theorem breqWord_accepts (ch : Channel) (r : BitVec 6) :
    breqWord ch false r &&& 0x81 = 0 ∧ breqWord ch true r &&& 0x81 = 0x80 := by
  refine ⟨?_, ?_⟩ <;> revert ch r <;> intro ch <;> cases ch <;> decide

theorem tick (raw : RawIn) : Statement (.tick raw) :=
  of_row (r := ⟨"TICK", .fTick, 0x0, 0x0⟩) (by decide) rfl rfl (by revert raw; decide)

theorem bootMain (raw : RawIn) : Statement (.bootMain raw) :=
  of_row (r := ⟨"BOOT_MAIN", .fBoot, 0x2, 0x2⟩) (by decide) rfl rfl (by revert raw; decide)

theorem bootDemo (raw : RawIn) : Statement (.bootDemo raw) :=
  of_row (r := ⟨"BOOT_DEMO", .fBoot, 0x2, 0x0⟩) (by decide) rfl rfl (by revert raw; decide)

theorem setFastBlink (ch : Channel) (n : Nat) : Statement (.setFastBlink ch n) :=
  of_row (r := ⟨"SET_FAST_BLINK", .fBreq, 0x81, 0x0⟩) (by decide) rfl rfl (fun _ => by
    simp only [Row.accepts, encode, Format.width, (breqWord_accepts ch _).1, (breqWord _ _ _).isLt,
      decide_true, Bool.and_self])

theorem setSlowBlink (ch : Channel) (n : Nat) : Statement (.setSlowBlink ch n) :=
  of_row (r := ⟨"SET_SLOW_BLINK", .fBreq, 0x81, 0x80⟩) (by decide) rfl rfl (fun _ => by
    simp only [Row.accepts, encode, Format.width, (breqWord_accepts ch _).2, (breqWord _ _ _).isLt,
      decide_true, Bool.and_self])

theorem debPress (ch : Channel) : Statement (.debPress ch) :=
  of_row (r := ⟨"DEB_PRESS", .gDeb, 0x1, 0x1⟩) (by decide) rfl rfl (by cases ch <;> decide)

theorem debRelease (ch : Channel) : Statement (.debRelease ch) :=
  of_row (r := ⟨"DEB_RELEASE", .gDeb, 0x1, 0x0⟩) (by decide) rfl rfl (by cases ch <;> decide)

theorem accSelect : Statement .accSelect :=
  of_row (r := ⟨"ACC_SELECT", .gAe, 0x7, 0x4⟩) (by decide) rfl rfl (by decide)

theorem accCancel : Statement .accCancel :=
  of_row (r := ⟨"ACC_CANCEL", .gAe, 0x7, 0x5⟩) (by decide) rfl rfl (by decide)

theorem accEdgeLocked : Statement .accEdgeLocked :=
  of_row (r := ⟨"ACC_EDGE_LOCKED", .gAe, 0x7, 0x6⟩) (by decide) rfl rfl (by decide)

theorem accRearm : Statement .accRearm :=
  of_row (r := ⟨"ACC_REARM", .gAr, 0x7, 0x2⟩) (by decide) rfl rfl (by decide)

theorem accCommit : Statement .accCommit :=
  of_row (r := ⟨"ACC_COMMIT", .gAc, 0xF, 0x3⟩) (by decide) rfl rfl (by decide)

theorem lightsOn : Statement .lightsOn :=
  of_row (r := ⟨"LIGHTS_ON", .gLt, 0x3, 0x2⟩) (by decide) rfl rfl (by decide)

theorem lightsOff : Statement .lightsOff :=
  of_row (r := ⟨"LIGHTS_OFF", .gLt, 0x3, 0x3⟩) (by decide) rfl rfl (by decide)

theorem valetPulse : Statement .valetPulse :=
  of_row (r := ⟨"VALET_PULSE", .gVt, 0x1, 0x1⟩) (by decide) rfl rfl (by decide)

theorem doorsRise : Statement .doorsRise :=
  of_row (r := ⟨"DOORS_RISE", .gDt, 0x3, 0x2⟩) (by decide) rfl rfl (by decide)

theorem doorsFall : Statement .doorsFall :=
  of_row (r := ⟨"DOORS_FALL", .gDt, 0x3, 0x1⟩) (by decide) rfl rfl (by decide)

theorem paceAdvance : Statement .paceAdvance :=
  of_row (r := ⟨"PACE_ADVANCE", .gPs, 0x1, 0x0⟩) (by decide) rfl rfl (by decide)

theorem paceRollover : Statement .paceRollover :=
  of_row (r := ⟨"PACE_ROLLOVER", .gPs, 0x1, 0x1⟩) (by decide) rfl rfl (by decide)

theorem blinkIdle (ch : Channel) (slow : Bool) (parity : Bool) : Statement (.blinkIdle ch slow parity) :=
  of_row (r := ⟨"BLINK_IDLE", .gBc .lights, 0x4, 0x0⟩) (by decide) rfl rfl (by cases ch <;> cases slow <;> cases parity <;> decide)

theorem blinkFastStep (ch : Channel) (parity : Bool) : Statement (.blinkFastStep ch parity) :=
  of_row (r := ⟨"BLINK_FAST_STEP", .gBc .lights, 0x6, 0x4⟩) (by decide) rfl rfl (by cases ch <;> cases parity <;> decide)

theorem blinkSlowStep (ch : Channel) : Statement (.blinkSlowStep ch) :=
  of_row (r := ⟨"BLINK_SLOW_STEP", .gBc .lights, 0x7, 0x6⟩) (by decide) rfl rfl (by cases ch <;> decide)

theorem blinkSlowSkip (ch : Channel) : Statement (.blinkSlowSkip ch) :=
  of_row (r := ⟨"BLINK_SLOW_SKIP", .gBc .lights, 0x7, 0x7⟩) (by decide) rfl rfl (by cases ch <;> decide)

end Sys2Proof.Laws.EncodesInItsRow
end

