-- ==== Sys2Proof/Laws/Tick.lean ====
section
/-! SUPPORT. What each phase of a tick leaves of every field, and the debounced values of a channel. -/

namespace Sys2Proof.Machine

variable {w : Nat}

/-! ### Phase 1 -/

/-- A channel's counter after phase 1 (R101, R102). -/
def debouncedCnt (c : Config) (press : Bool) (n : Byte) : Byte := if press then countUp c n else countDown n

/-- A channel's level after phase 1, from its new counter (R101, R102). -/
def debouncedHeld (c : Config) (press : Bool) (n : Byte) (h : Bool) : Bool :=
  if press then (decide (n = c.threshold) || h) else (h && !decide (n < c.releaseLevel))

/-- A channel's edge memory after phase 1, from its new counter (R101, R102). -/
def debouncedOld (c : Config) (ch : Channel) (press : Bool) (n : Byte) (o : Bool) : Bool :=
  if press then (o && !(decide (ch = .doors) && decide (n < c.releaseLevel)))
  else (o && !(decide (ch ≠ .doors) && decide (n < c.releaseLevel)))

/-- One channel's debounce, every field of every channel (R100 to R102). -/
theorem debounceChannel_spec (c : Config) (ch : Channel) (press : Bool) (s : Panel w) :
    debounceChannel c ch press s =
        { s with
          cnt := (debounceChannel c ch press s).cnt, held := (debounceChannel c ch press s).held,
          oldHeld := (debounceChannel c ch press s).oldHeld } ∧
      (debounceChannel c ch press s).cnt.get ch = debouncedCnt c press (s.cnt.get ch) ∧
      (debounceChannel c ch press s).held.get ch =
        debouncedHeld c press (debouncedCnt c press (s.cnt.get ch)) (s.held.get ch) ∧
      (debounceChannel c ch press s).oldHeld.get ch =
        debouncedOld c ch press (debouncedCnt c press (s.cnt.get ch)) (s.oldHeld.get ch) ∧
      ∀ ch', ch' ≠ ch →
        (debounceChannel c ch press s).cnt.get ch' = s.cnt.get ch' ∧
        (debounceChannel c ch press s).held.get ch' = s.held.get ch' ∧
        (debounceChannel c ch press s).oldHeld.get ch' = s.oldHeld.get ch' := by
  rw [debounceChannel_eq]
  cases press
  · simp only [debouncedCnt, debouncedHeld, debouncedOld, Bool.false_eq_true, if_false]
    rw [debRelease_eq]
    generalize countDown (s.cnt.get ch) = n
    refine ⟨rfl, by simp, ?_, ?_, fun ch' h => ⟨PerCh.get_set_ne _ _ h, ?_, ?_⟩⟩
    · by_cases hn : n < c.releaseLevel <;> simp [hn]
    · by_cases hn : n < c.releaseLevel <;> by_cases hd : ch = .doors <;> simp [hn, hd]
    · by_cases hn : n < c.releaseLevel <;> simp [hn, PerCh.get_set_ne _ _ h]
    · by_cases hn : n < c.releaseLevel <;> by_cases hd : ch = .doors <;> simp [hn, hd, PerCh.get_set_ne _ _ h]
  · simp only [debouncedCnt, debouncedHeld, debouncedOld, if_true]
    rw [debPress_eq]
    generalize countUp c (s.cnt.get ch) = n
    refine ⟨rfl, by simp, ?_, ?_, fun ch' h => ⟨PerCh.get_set_ne _ _ h, ?_, ?_⟩⟩
    · by_cases hn : n = c.threshold <;> simp [hn]
    · by_cases hn : n < c.releaseLevel <;> by_cases hd : ch = .doors <;> simp [hn, hd]
    · by_cases hn : n = c.threshold <;> simp [hn, PerCh.get_set_ne _ _ h]
    · by_cases hd : ch = .doors ∧ n < c.releaseLevel
      · rw [if_pos hd]; exact PerCh.get_set_ne _ _ (hd.1 ▸ h)
      · rw [if_neg hd]

/-- Debouncing a list of distinct channels: each is debounced once, every other channel and field stays (R100). -/
theorem foldl_debounce_spec (c : Config) (raw : RawIn) (l : List Channel) (hl : l.Nodup) (s : Panel w) :
    l.foldl (fun t ch => debounceChannel c ch (pressed raw ch) t) s =
        { s with
          cnt := (l.foldl (fun t ch => debounceChannel c ch (pressed raw ch) t) s).cnt,
          held := (l.foldl (fun t ch => debounceChannel c ch (pressed raw ch) t) s).held,
          oldHeld := (l.foldl (fun t ch => debounceChannel c ch (pressed raw ch) t) s).oldHeld } ∧
      ∀ ch,
        (l.foldl (fun t ch => debounceChannel c ch (pressed raw ch) t) s).cnt.get ch =
          (if ch ∈ l then debouncedCnt c (pressed raw ch) (s.cnt.get ch) else s.cnt.get ch) ∧
        (l.foldl (fun t ch => debounceChannel c ch (pressed raw ch) t) s).held.get ch =
          (if ch ∈ l then
            debouncedHeld c (pressed raw ch) (debouncedCnt c (pressed raw ch) (s.cnt.get ch)) (s.held.get ch)
          else s.held.get ch) ∧
        (l.foldl (fun t ch => debounceChannel c ch (pressed raw ch) t) s).oldHeld.get ch =
          (if ch ∈ l then
            debouncedOld c ch (pressed raw ch) (debouncedCnt c (pressed raw ch) (s.cnt.get ch)) (s.oldHeld.get ch)
          else s.oldHeld.get ch) := by
  induction l generalizing s with
  | nil => exact ⟨rfl, fun ch => by simp⟩
  | cons a l ih =>
    obtain ⟨ha, hl⟩ := List.nodup_cons.mp hl
    obtain ⟨hf, hc, hh, ho, hn⟩ := debounceChannel_spec c a (pressed raw a) s
    obtain ⟨if_, ic⟩ := ih hl (debounceChannel c a (pressed raw a) s)
    simp only [List.foldl_cons]
    refine ⟨by rw [if_, hf], fun ch => ?_⟩
    obtain ⟨i1, i2, i3⟩ := ic ch
    rw [i1, i2, i3]
    by_cases h : ch = a
    · subst h; simp [ha, hc, hh, ho]
    · simp [h, hn ch h]

/-- Phase 1: the debounced values of every polled channel, and nothing else (R100). -/
theorem debouncePhase_spec (c : Config) (raw : RawIn) (s : Panel w) :
    debouncePhase c raw s =
        { s with
          cnt := (debouncePhase c raw s).cnt, held := (debouncePhase c raw s).held,
          oldHeld := (debouncePhase c raw s).oldHeld } ∧
      ∀ ch ∈ c.channels,
        (debouncePhase c raw s).cnt.get ch = debouncedCnt c (pressed raw ch) (s.cnt.get ch) ∧
        (debouncePhase c raw s).held.get ch =
          debouncedHeld c (pressed raw ch) (debouncedCnt c (pressed raw ch) (s.cnt.get ch)) (s.held.get ch) ∧
        (debouncePhase c raw s).oldHeld.get ch =
          debouncedOld c ch (pressed raw ch) (debouncedCnt c (pressed raw ch) (s.cnt.get ch))
            (s.oldHeld.get ch) := by
  have hn : c.channels.Nodup := List.Nodup.sublist (List.take_sublist _ _) (by decide)
  obtain ⟨h, hc⟩ := foldl_debounce_spec c raw c.channels hn s
  refine ⟨h, fun ch hm => ?_⟩
  obtain ⟨h1, h2, h3⟩ := hc ch
  rw [if_pos hm] at h1 h2 h3
  exact ⟨h1, h2, h3⟩

/-- Phase 1 of the hardware, on any channel (R100). -/
theorem debouncePhase_hardware (raw : RawIn) (s : Panel w) (ch : Channel) :
    (debouncePhase Config.hardware raw s).cnt.get ch =
        debouncedCnt Config.hardware (pressed raw ch) (s.cnt.get ch) ∧
      (debouncePhase Config.hardware raw s).held.get ch =
        debouncedHeld Config.hardware (pressed raw ch)
          (debouncedCnt Config.hardware (pressed raw ch) (s.cnt.get ch)) (s.held.get ch) ∧
      (debouncePhase Config.hardware raw s).oldHeld.get ch =
        debouncedOld Config.hardware ch (pressed raw ch)
          (debouncedCnt Config.hardware (pressed raw ch) (s.cnt.get ch)) (s.oldHeld.get ch) :=
  (debouncePhase_spec Config.hardware raw s).2 ch ch.mem_all

/-- Phase 1's fields. -/
theorem debouncePhase_frame (c : Config) (raw : RawIn) (s : Panel w) :
    debouncePhase c raw s =
      { s with
        cnt := (debouncePhase c raw s).cnt, held := (debouncePhase c raw s).held,
        oldHeld := (debouncePhase c raw s).oldHeld } :=
  (debouncePhase_spec c raw s).1

/-! ### Phases 2 to 6: the fields each may write -/

/-- The lights consumer's fields (R150, R151). -/
theorem lightsPhase_frame (c : Config) (s : Panel w) :
    lightsPhase c s =
      { s with
        oldHeld := if rise s .lights then s.oldHeld.set .lights true else s.oldHeld
        lightsOn := (lightsPhase c s).lightsOn, blink := (lightsPhase c s).blink, out := (lightsPhase c s).out,
        writes := (lightsPhase c s).writes, beeps := (lightsPhase c s).beeps } := by
  rw [lightsPhase_eq]
  cases rise s .lights
  · rfl
  · cases s.lightsOn <;> rfl

/-- The valet consumer's fields (R152). -/
theorem valetPhase_frame (c : Config) (s : Panel w) :
    valetPhase c s =
      { s with
        oldHeld := if rise s .valet then s.oldHeld.set .valet true else s.oldHeld
        blink := (valetPhase c s).blink, beeps := (valetPhase c s).beeps } := by
  rw [valetPhase_eq]
  cases rise s .valet <;> rfl

/-- The doors consumer's fields (R153, R154). -/
theorem doorsPhase_frame (c : Config) (s : Panel w) :
    doorsPhase c s =
      { s with
        oldHeld :=
          if rise s .doors then s.oldHeld.set .doors true
          else if fall s .doors then s.oldHeld.set .doors false else s.oldHeld
        blink := (doorsPhase c s).blink, beeps := (doorsPhase c s).beeps } := by
  rw [doorsPhase_eq]
  cases rise s .doors
  · cases fall s .doors <;> rfl
  · rfl

/-- Phase 3's fields (R121 to R123). -/
theorem edgePhase_frame (c : Config) (s : Panel w) :
    edgePhase c s =
      { s with
        oldHeld := (edgePhase c s).oldHeld, sel := (edgePhase c s).sel, cphase := (edgePhase c s).cphase,
        elapsed := (edgePhase c s).elapsed, out := (edgePhase c s).out, writes := (edgePhase c s).writes,
        beeps := (edgePhase c s).beeps } := by
  rw [edgePhase_eq]
  (repeat' split) <;> first | rfl | rw [selectAction_frame] | rw [cancelAction_frame]

/-- Phase 4's field (R124). -/
theorem rearmPhase_frame (s : Panel w) : rearmPhase s = { s with cphase := (rearmPhase s).cphase } := by
  rw [rearmPhase_eq, rearmAction]
  split <;> rfl

/-- Phase 5's fields (R125). -/
theorem commitPhase_frame (c : Config) (s : Panel w) :
    commitPhase c s =
      { s with
        cphase := (commitPhase c s).cphase, out := (commitPhase c s).out, writes := (commitPhase c s).writes,
        beeps := (commitPhase c s).beeps } := by
  rw [commitPhase_eq, commitAction]
  split
  · split <;> rfl
  · rfl

/-- Phase 6's fields (R173, R174): the counters in full. -/
theorem blinkPhase_frame (c : Config) (s : Panel c.paceBits) :
    blinkPhase c s =
      { s with
        pace := if c.paceLimit < s.pace.toNat + 1 then 0 else s.pace + 1
        parity := if c.paceLimit < s.pace.toNat + 1 then s.parity + 1 else s.parity
        elapsed := if c.paceLimit < s.pace.toNat + 1 then s.elapsed + 1 else s.elapsed
        blink := (blinkPhase c s).blink, out := (blinkPhase c s).out, writes := (blinkPhase c s).writes } := by
  rw [blinkPhase_eq]
  split
  · exact rolloverPace_frame c s
  · rfl

/-! ### The same, field by field -/

/-- The fields the debounce phase leaves. -/
@[simp] theorem debouncePhase_keeps (c : Config) (raw : RawIn) (s : Panel w) :
    (debouncePhase c raw s).blink = s.blink ∧ (debouncePhase c raw s).pace = s.pace ∧
      (debouncePhase c raw s).parity = s.parity ∧ (debouncePhase c raw s).sel = s.sel ∧
      (debouncePhase c raw s).cphase = s.cphase ∧ (debouncePhase c raw s).elapsed = s.elapsed ∧
      (debouncePhase c raw s).lightsOn = s.lightsOn ∧ (debouncePhase c raw s).out = s.out ∧
      (debouncePhase c raw s).mode = s.mode ∧ (debouncePhase c raw s).refused = s.refused ∧
      (debouncePhase c raw s).writes = s.writes ∧ (debouncePhase c raw s).beeps = s.beeps ∧
      (debouncePhase c raw s).wdtKick = s.wdtKick := by
  rw [debouncePhase_frame]
  and_intros <;> rfl

/-- The fields the lights phase leaves. -/
@[simp] theorem lightsPhase_keeps (c : Config) (s : Panel w) :
    (lightsPhase c s).cnt = s.cnt ∧ (lightsPhase c s).held = s.held ∧ (lightsPhase c s).pace = s.pace ∧
      (lightsPhase c s).parity = s.parity ∧ (lightsPhase c s).sel = s.sel ∧
      (lightsPhase c s).cphase = s.cphase ∧ (lightsPhase c s).elapsed = s.elapsed ∧
      (lightsPhase c s).mode = s.mode ∧ (lightsPhase c s).refused = s.refused ∧
      (lightsPhase c s).wdtKick = s.wdtKick := by
  rw [lightsPhase_frame]
  and_intros <;> rfl

/-- The fields the valet phase leaves. -/
@[simp] theorem valetPhase_keeps (c : Config) (s : Panel w) :
    (valetPhase c s).cnt = s.cnt ∧ (valetPhase c s).held = s.held ∧ (valetPhase c s).pace = s.pace ∧
      (valetPhase c s).parity = s.parity ∧ (valetPhase c s).sel = s.sel ∧ (valetPhase c s).cphase = s.cphase ∧
      (valetPhase c s).elapsed = s.elapsed ∧ (valetPhase c s).lightsOn = s.lightsOn ∧
      (valetPhase c s).out = s.out ∧ (valetPhase c s).mode = s.mode ∧ (valetPhase c s).refused = s.refused ∧
      (valetPhase c s).writes = s.writes ∧ (valetPhase c s).wdtKick = s.wdtKick := by
  rw [valetPhase_frame]
  and_intros <;> rfl

/-- The fields the doors phase leaves. -/
@[simp] theorem doorsPhase_keeps (c : Config) (s : Panel w) :
    (doorsPhase c s).cnt = s.cnt ∧ (doorsPhase c s).held = s.held ∧ (doorsPhase c s).pace = s.pace ∧
      (doorsPhase c s).parity = s.parity ∧ (doorsPhase c s).sel = s.sel ∧ (doorsPhase c s).cphase = s.cphase ∧
      (doorsPhase c s).elapsed = s.elapsed ∧ (doorsPhase c s).lightsOn = s.lightsOn ∧
      (doorsPhase c s).out = s.out ∧ (doorsPhase c s).mode = s.mode ∧ (doorsPhase c s).refused = s.refused ∧
      (doorsPhase c s).writes = s.writes ∧ (doorsPhase c s).wdtKick = s.wdtKick := by
  rw [doorsPhase_frame]
  and_intros <;> rfl

/-- The fields the edge phase leaves. -/
@[simp] theorem edgePhase_keeps (c : Config) (s : Panel w) :
    (edgePhase c s).cnt = s.cnt ∧ (edgePhase c s).held = s.held ∧ (edgePhase c s).blink = s.blink ∧
      (edgePhase c s).pace = s.pace ∧ (edgePhase c s).parity = s.parity ∧ (edgePhase c s).lightsOn = s.lightsOn ∧
      (edgePhase c s).mode = s.mode ∧ (edgePhase c s).refused = s.refused ∧ (edgePhase c s).wdtKick = s.wdtKick := by
  rw [edgePhase_frame]
  and_intros <;> rfl

/-- The fields the rearm phase leaves. -/
@[simp] theorem rearmPhase_keeps (s : Panel w) :
    (rearmPhase s).cnt = s.cnt ∧ (rearmPhase s).held = s.held ∧ (rearmPhase s).oldHeld = s.oldHeld ∧
      (rearmPhase s).blink = s.blink ∧ (rearmPhase s).pace = s.pace ∧ (rearmPhase s).parity = s.parity ∧
      (rearmPhase s).sel = s.sel ∧ (rearmPhase s).elapsed = s.elapsed ∧ (rearmPhase s).lightsOn = s.lightsOn ∧
      (rearmPhase s).out = s.out ∧ (rearmPhase s).mode = s.mode ∧ (rearmPhase s).refused = s.refused ∧
      (rearmPhase s).writes = s.writes ∧ (rearmPhase s).beeps = s.beeps ∧ (rearmPhase s).wdtKick = s.wdtKick := by
  rw [rearmPhase_frame]
  and_intros <;> rfl

/-- The fields the commit phase leaves. -/
@[simp] theorem commitPhase_keeps (c : Config) (s : Panel w) :
    (commitPhase c s).cnt = s.cnt ∧ (commitPhase c s).held = s.held ∧ (commitPhase c s).oldHeld = s.oldHeld ∧
      (commitPhase c s).blink = s.blink ∧ (commitPhase c s).pace = s.pace ∧
      (commitPhase c s).parity = s.parity ∧ (commitPhase c s).sel = s.sel ∧
      (commitPhase c s).elapsed = s.elapsed ∧ (commitPhase c s).lightsOn = s.lightsOn ∧
      (commitPhase c s).mode = s.mode ∧ (commitPhase c s).refused = s.refused ∧
      (commitPhase c s).wdtKick = s.wdtKick := by
  rw [commitPhase_frame]
  and_intros <;> rfl

/-- The fields the blink phase leaves. -/
@[simp] theorem blinkPhase_keeps (c : Config) (s : Panel c.paceBits) :
    (blinkPhase c s).cnt = s.cnt ∧ (blinkPhase c s).held = s.held ∧ (blinkPhase c s).oldHeld = s.oldHeld ∧
      (blinkPhase c s).sel = s.sel ∧ (blinkPhase c s).cphase = s.cphase ∧
      (blinkPhase c s).lightsOn = s.lightsOn ∧ (blinkPhase c s).mode = s.mode ∧
      (blinkPhase c s).refused = s.refused ∧ (blinkPhase c s).beeps = s.beeps ∧
      (blinkPhase c s).wdtKick = s.wdtKick := by
  rw [blinkPhase_frame]
  and_intros <;> rfl

/-- Phase 6 writes indicator lines only. -/
theorem blinkPhase_line (c : Config) (s : Panel c.paceBits) {line : OutLine} (h : ∀ ch, line ≠ .ind ch) :
    (blinkPhase c s).out.get line = s.out.get line := by
  rw [blinkPhase_eq]
  split
  · exact rolloverPace_line c s h
  · rfl

/-- What a tick never writes: the mode and the mark (R200). -/
theorem tickPhases_keeps (c : Config) (raw : RawIn) (s : Panel c.paceBits) :
    (tickPhases c raw s).mode = s.mode ∧ (tickPhases c raw s).refused = s.refused ∧
      (tickPhases c raw s).wdtKick = true := by
  simp [tickPhases, accessoryPhases, togglePhases]

/-! ### The hardware's levels in numbers -/

/-- The counter after a press, as a number (R101). -/
theorem countUp_toNat (n : Byte) :
    (countUp Config.hardware n).toNat = if n.toNat < 160 then n.toNat + 1 else n.toNat := by
  have h : n < Config.hardware.threshold ↔ n.toNat < 160 := by rw [BitVec.lt_def]; rfl
  rw [countUp]
  split <;> rename_i hn <;> rw [h] at hn <;> simp [hn]
  omega

/-- The counter after a release, as a number (R102). -/
theorem countDown_toNat (n : Byte) : (countDown n).toNat = n.toNat - 1 := by
  rw [countDown]
  split <;> rename_i h <;> rw [BitVec.lt_def] at h <;> simp at h ⊢ <;> omega

/-- `RELEASE_LEVEL` is 10 (R6). -/
theorem lt_releaseLevel (n : Byte) : n < Config.hardware.releaseLevel ↔ n.toNat < 10 := by
  rw [BitVec.lt_def]; rfl

/-- `THRESHOLD` is 160 (R6). -/
theorem eq_threshold (n : Byte) : n = Config.hardware.threshold ↔ n.toNat = 160 := by
  rw [← BitVec.toNat_inj]; rfl

/-- `COMMIT_LEVEL` is 10 (R6). -/
theorem commitLevel_lt (n : Byte) : Config.hardware.commitLevel < n ↔ 10 < n.toNat := by
  rw [BitVec.lt_def]; rfl

/-- The four codes of the confirm phase (R76). -/
theorem phase_cases (p : BitVec 2) : p = phaseWait ∨ p = phaseJust ∨ p = phaseLock ∨ p = phaseReserved := by
  revert p; decide

/-! ### The fields of a whole tick -/

/-- The blink requests: the byte, or the mark alone (R170, R171, R85). -/
theorem requestBlink_cases (s : Panel w) (c : Config) (ch : Channel) (slow : Bool) (n : Nat) :
    (n ≤ 63 ∧ s.requestBlink c ch slow n = s.setBlink ch (requestByte c slow (BitVec.ofNat 6 n))) ∨
      (63 < n ∧ s.requestBlink c ch slow n = s.refuse .blinkRepeatsRange) := by
  rw [Panel.requestBlink]
  split
  · rename_i h; exact .inr ⟨h, rfl⟩
  · rename_i h; exact .inl ⟨Nat.not_lt.mp h, rfl⟩

/-- The debounced values of a tick are those of its phase 1 (R23, R100). -/
theorem tickPhases_debounced (c : Config) (raw : RawIn) (s : Panel c.paceBits) :
    (tickPhases c raw s).cnt = (debouncePhase c raw s.beginTick).cnt ∧
      (tickPhases c raw s).held = (debouncePhase c raw s.beginTick).held := by
  simp [tickPhases, accessoryPhases, togglePhases]

/-- The pace counter after phase 6, as a number: it never wraps (R8, R173, R174). -/
theorem blinkPhase_pace (c : Config) (s : Panel c.paceBits) :
    (blinkPhase c s).pace.toNat = if c.paceLimit < s.pace.toNat + 1 then 0 else s.pace.toNat + 1 := by
  rw [blinkPhase_eq]
  split
  · rw [rolloverPace_frame]; simp
  · exact advancePace_toNat (by omega)

/-- The pace and the parity after a tick (R173, R174). -/
theorem tickPhases_pace (c : Config) (raw : RawIn) (s : Panel c.paceBits) :
    (tickPhases c raw s).pace.toNat = (if c.paceLimit < s.pace.toNat + 1 then 0 else s.pace.toNat + 1) ∧
      (tickPhases c raw s).parity = (if c.paceLimit < s.pace.toNat + 1 then s.parity + 1 else s.parity) := by
  constructor
  · rw [tickPhases, kick_pace, blinkPhase_pace]
    simp [accessoryPhases, togglePhases]
  · rw [tickPhases, blinkPhase_frame]
    simp [accessoryPhases, togglePhases]

/-- Each edge is acknowledged by its consumer (R104): the edge memories after phase 2. -/
theorem togglePhases_oldHeld (c : Config) (s : Panel w) (ch : Channel) :
    (togglePhases c s).oldHeld.get ch =
      if ch = .accessory then s.oldHeld.get ch
      else if ch = .doors then
        (if rise s .doors then true else if fall s .doors then false else s.oldHeld.get .doors)
      else if rise s ch then true else s.oldHeld.get ch := by
  rw [togglePhases, doorsPhase_frame]
  simp only [rise, fall, valetPhase_keeps, lightsPhase_keeps]
  rw [valetPhase_frame]
  simp only [rise, lightsPhase_keeps]
  rw [lightsPhase_frame]
  simp only [rise]
  obtain ⟨⟨_, ⟨hl, hv, hd, _⟩, ⟨ol, ov, od, oa⟩, _⟩, _⟩ := s
  simp only [PerCh.get]
  cases ch <;> cases hl <;> cases hv <;> cases hd <;> cases ol <;> cases ov <;> cases od <;> rfl

/-- The accessory edge is acknowledged in phase 3, whatever the phase but the reserved one (R104, R123). -/
theorem edgePhase_oldHeld (c : Config) (s : Panel w) :
    (edgePhase c s).oldHeld =
      if rise s .accessory = true ∧ s.cphase ≠ phaseReserved then s.oldHeld.set .accessory true else s.oldHeld := by
  rw [edgePhase_eq]
  cases rise s .accessory
  · simp
  · rcases phase_cases s.cphase with h | h | h | h <;>
      simp [h, phaseWait, phaseJust, phaseLock, phaseReserved, selectAction, cancelAction, edgeLockedAction]

/-- The edge memories after a tick are those after phase 3 (R24). -/
theorem tickPhases_oldHeld (c : Config) (raw : RawIn) (s : Panel c.paceBits) :
    (tickPhases c raw s).oldHeld = (edgePhase c (togglePhases c (debouncePhase c raw s.beginTick))).oldHeld := by
  simp [tickPhases, accessoryPhases]

/-- Phase 2 writes no line but the lights relay (R32). -/
theorem togglePhases_line (c : Config) (s : Panel w) {line : OutLine} (h : line ≠ .relayLights) :
    (togglePhases c s).out.get line = s.out.get line := by
  simp only [togglePhases, doorsPhase_keeps, valetPhase_keeps]
  rw [lightsPhase_eq]
  split
  · split <;> simp [lightsOnAction, lightsOffAction, OutLevels.get_set, h]
  · rfl

end Sys2Proof.Machine
end

