-- ==== Sys2Proof/Tests/Slice0.lean ====
section
/-! SUPPORT. Small tests, each on one step; the expected values are those of the rules' examples and of
spec/95_test_vectors.md. Then, for each statement with hypotheses, a concrete case that meets them. -/

namespace Sys2Proof.Tests

open Sys2Proof.Machine Sys2Proof.Safety

/-! ### Well-formedness: what each check refuses -/

/-- R85: 64 repeats cannot be encoded; 63 can. -/
theorem test_wf_fast_repeats :
    (Instr.setFastBlink .lights 64).wellFormed = false ∧ (Instr.setFastBlink .lights 63).wellFormed = true := by
  decide

theorem test_wf_slow_repeats : (Instr.setSlowBlink .doors 64).wellFormed = false := by decide

/-- R73: a main boot has valet released, a demo boot has it asserted. -/
theorem test_wf_boot : (Instr.bootMain 0b0000).wellFormed = false ∧ (Instr.bootDemo 0b0010).wellFormed = false := by
  decide

/-- R87: a repeat count is at least 1. -/
theorem test_wf_stimulus :
    (Stim.tick 0b0010 0).wellFormed = false ∧ (Stim.idle 0).wellFormed = false ∧
      (Stim.press true false false false 0).wellFormed = false ∧ (Stim.tick 0b0010 1).wellFormed = true := by
  decide

/-- R8: a pace limit of 3 does not fit 2 bits, one of 2 does. -/
theorem test_wf_config :
    ({ paceLimit := 3, paceBits := 2 } : Params).accept = none ∧
      ({ paceLimit := 2, paceBits := 2 } : Params).wellFormed = true := by
  decide

/-- R80: a map that gives every cause one pattern is refused. -/
theorem test_wf_beep_map : BeepCause.mapWellFormed (fun _ => .medium) = false := by decide

/-! ### Decoding: words written out from the patterns of R84 -/

theorem test_decode_tick : decode .fTick 0b1010 = .op (.tick 0b1010) := by decide
theorem test_decode_bootMain : decode .fBoot 0b1111 = .op (.bootMain 0b1111) := by decide
theorem test_decode_bootDemo : decode .fBoot 0b1101 = .op (.bootDemo 0b1101) := by decide
/-- R170's example: `SET_FAST_BLINK(L, 4)` is `0b00_0_000100_0`. -/
theorem test_decode_setFastBlink : decode .fBreq 0b00_0_000100_0 = .op (.setFastBlink .lights 4) := by decide
/-- R171's example: `SET_SLOW_BLINK(D, 3)` is `0b10_1_000011_0`. -/
theorem test_decode_setSlowBlink : decode .fBreq 0b10_1_000011_0 = .op (.setSlowBlink .doors 3) := by decide
theorem test_decode_debPress : decode .gDeb 0b011 = .op (.debPress .valet) := by decide
theorem test_decode_debRelease : decode .gDeb 0b100 = .op (.debRelease .doors) := by decide
theorem test_decode_accSelect : decode .gAe 0b100 = .op .accSelect := by decide
theorem test_decode_accCancel : decode .gAe 0b101 = .op .accCancel := by decide
theorem test_decode_accEdgeLocked : decode .gAe 0b110 = .op .accEdgeLocked := by decide
theorem test_decode_accRearm : decode .gAr 0b010 = .op .accRearm := by decide
theorem test_decode_accCommit : decode .gAc 0b0011 = .op .accCommit := by decide
theorem test_decode_lightsOn : decode .gLt 0b10 = .op .lightsOn := by decide
theorem test_decode_lightsOff : decode .gLt 0b11 = .op .lightsOff := by decide
theorem test_decode_valetPulse : decode .gVt 0b1 = .op .valetPulse := by decide
theorem test_decode_doorsRise : decode .gDt 0b10 = .op .doorsRise := by decide
theorem test_decode_doorsFall : decode .gDt 0b01 = .op .doorsFall := by decide
theorem test_decode_paceAdvance : decode .gPs 0b0 = .op .paceAdvance := by decide
theorem test_decode_paceRollover : decode .gPs 0b1 = .op .paceRollover := by decide
theorem test_decode_blinkIdle : decode (.gBc .valet) 0b001 = .op (.blinkIdle .valet false true) := by decide
theorem test_decode_blinkFastStep : decode (.gBc .lights) 0b101 = .op (.blinkFastStep .lights true) := by decide
theorem test_decode_blinkSlowStep : decode (.gBc .doors) 0b110 = .op (.blinkSlowStep .doors) := by decide
theorem test_decode_blinkSlowSkip : decode (.gBc .accessory) 0b111 = .op (.blinkSlowSkip .accessory) := by decide

/-- Reserved vectors (R85) and a vector that selects nothing (R84). -/
theorem test_decode_rejects :
    decode .gAe 0b111 = .rejected .unreachableVector ∧ decode .gDt 0b11 = .rejected .unreachableVector ∧
      decode .fBreq 0b0000000001 = .rejected .oddRequest ∧ decode .fTick 0b10000 = .rejected .tooWide ∧
      decode .gAc 0b0111 = .nothing := by
  decide

/-- Bare table words (log 8): a word that one row accepts, one that fixes more bits than its rivals, none. -/
theorem test_decodeTableWord :
    decodeTableWord 10 0x8 = some (.setFastBlink .lights 4) ∧ decodeTableWord 16 0x286 = some (.setSlowBlink .doors 3) ∧
      decodeTableWord 4 3 = some .accCommit ∧ decodeTableWord 8 0xE = some (.bootMain 0xE) ∧
      decodeTableWord 16 1 = none := by
  decide

/-- R88's examples: `PRESS A 160` is `TICK 0b1010 * 160`, and `PRESS V 1` is `TICK 0b0000`. -/
theorem test_assemble :
    assemble [.press false false false true 2, .press false true false false 1] =
        [⟨.fTick, 0b1010⟩, ⟨.fTick, 0b1010⟩, ⟨.fTick, 0b0000⟩] ∧
      assemble [.boot, .idle 1] = [⟨.fBoot, 0b0010⟩, ⟨.fTick, 0b0010⟩] := by
  decide

/-! ### One step of each operation -/

/-- What an outcome leaves. -/
def after {α : Type} : Host.Outcome α Fault Refusal → Option α
  | .next t => some t
  | .fault _ => none
  | .refused _ => none

/-- One field of what an outcome leaves. -/
def field {α β : Type} (f : α → β) (r : Host.Outcome α Fault Refusal) : Option β := (after r).map f

/-- The state after reset, with its panel changed. -/
def fromReset (f : Panel Config.hardware.paceBits → Panel Config.hardware.paceBits) : State :=
  State.reset.withPanel (f State.reset.toPanel)

/-- A channel at a counter value and a level, its edge memory equal to the level. -/
def channelPanel (w : Nat) (ch : Channel) (n : Byte) (h : Bool) : Panel w :=
  (((Panel.reset w).setCnt ch n).setHeld ch h).setOldHeld ch h

/-- The state of such a panel. -/
def channelAt (ch : Channel) (n : Byte) (h : Bool) : State := fromReset fun _ => channelPanel _ ch n h

/-- The accessory machine at a phase, a selection and an elapsed count. -/
def accessoryAt (p sel : BitVec 2) (elapsed : Byte) : State :=
  fromReset fun s => ((s.setCphase p).setSel sel).setElapsed elapsed

/-- The locked phase with the button held. -/
def lockedHeld : State := fromReset fun s => (s.setCphase 2).setHeld .accessory true

/-- R101's example. -/
theorem test_debPress_latches :
    field (fun t => (t.cnt.lights, t.held.lights)) (exec (.debPress .lights) (channelAt .lights 159 false)) =
      some (160, true) := by
  decide

/-- R101: saturation, on another channel than the one above. -/
theorem test_debPress_saturates :
    field (fun t => (t.cnt.valet, t.held.valet, t.cnt.lights)) (exec (.debPress .valet) (channelAt .valet 160 true)) =
      some (160, true, 0) := by
  decide

/-- R102's example: doors keeps its edge memory. -/
theorem test_debRelease_doors :
    field (fun t => (t.cnt.doors, t.held.doors, t.oldHeld.doors))
        (exec (.debRelease .doors) (channelAt .doors 10 true)) = some (9, false, true) := by
  decide

/-- R102: the other channels clear it, and 11 goes to 10 with nothing cleared. -/
theorem test_debRelease_others :
    field (fun t => (t.held.accessory, t.oldHeld.accessory))
        (exec (.debRelease .accessory) (channelAt .accessory 10 true)) = some (false, false) ∧
      field (fun t => (t.cnt.lights, t.held.lights)) (exec (.debRelease .lights) (channelAt .lights 11 true)) =
        some (10, true) := by
  decide

/-- R121's example. -/
theorem test_accSelect :
    field (fun t => (t.sel, t.writes, t.beeps, t.elapsed)) (exec .accSelect (accessoryAt 0 1 7)) =
      some (2, [⟨.selLed .pick1, false⟩, ⟨.selLed .pick2, true⟩, ⟨.selLed .pick3, false⟩], [.accSelect 2], 0) := by
  decide

/-- R121: the wrap from 3 to Idle. -/
theorem test_accSelect_wraps :
    field (fun t => (t.sel, t.beeps, t.out.selLed)) (exec .accSelect (accessoryAt 0 3 0)) =
      some (0, [.accSelect 0], PerPick.fill false) := by
  decide

/-- R122's example. -/
theorem test_accCancel :
    field (fun t => (t.sel, t.cphase, t.out.relayAcc, t.beeps))
        (exec .accCancel ((accessoryAt 1 1 0).withPanel ((accessoryAt 1 1 0).emit (.relayAcc .pick1) true))) =
      some (0, 2, PerPick.fill false, [.accCancel]) := by
  decide

/-- R123's example. -/
theorem test_accEdgeLocked :
    field (fun t => (t.oldHeld.accessory, t.cphase)) (exec .accEdgeLocked lockedHeld) =
      some (true, 2) := by
  decide

/-- R124: LOCK goes to WAIT only with the button released. -/
theorem test_accRearm :
    field (fun t => t.cphase) (exec .accRearm (accessoryAt 2 0 0)) = some 0 ∧
      field (fun t => t.cphase) (exec .accRearm lockedHeld) = some 2 := by
  decide

/-- R125's example. -/
theorem test_accCommit :
    field (fun t => (t.cphase, t.writes, t.beeps)) (exec .accCommit (accessoryAt 0 2 11)) =
      some (1, [⟨.selLed .pick2, true⟩, ⟨.relayAcc .pick2, true⟩], [.accCommit]) := by
  decide

/-- R125: the comparison is strict. -/
theorem test_accCommit_waits :
    field (fun t => (t.cphase, t.writes)) (exec .accCommit (accessoryAt 0 2 10)) = some (0, []) := by
  decide

/-- R150's example. -/
theorem test_lightsOn :
    field (fun t => (t.lightsOn, t.blink.lights, t.beeps, t.writes)) (exec .lightsOn State.reset) =
      some (true, 0x08, [.lightsOn], [⟨.relayLights, true⟩]) := by
  decide

/-- R151's example. -/
theorem test_lightsOff :
    field (fun t => (t.lightsOn, t.blink.lights, t.beeps, t.writes)) (exec .lightsOff (fromReset (·.setLightsOn true))) =
      some (false, 0x84, [.lightsOff], [⟨.relayLights, false⟩]) := by
  decide

/-- R152's example. -/
theorem test_valetPulse :
    field (fun t => (t.blink.valet, t.beeps, t.oldHeld.valet)) (exec .valetPulse State.reset) =
      some (0x94, [.valet], true) := by
  decide

/-- R153's example. -/
theorem test_doorsRise :
    field (fun t => (t.blink.doors, t.beeps, t.oldHeld.doors)) (exec .doorsRise State.reset) =
      some (0x10, [.doorsRise], true) := by
  decide

/-- R154's example. -/
theorem test_doorsFall :
    field (fun t => (t.blink.doors, t.beeps, t.oldHeld.doors)) (exec .doorsFall (fromReset (·.setOldHeld .doors true))) =
      some (0x86, [.doorsFall], false) := by
  decide

/-- R170's example, and its refusal of 64 repeats. -/
theorem test_setFastBlink :
    field (fun t => (t.blink.lights, t.refused)) (exec (.setFastBlink .lights 4) State.reset) = some (0x08, none) ∧
      field (fun t => (t.blink.lights, t.refused)) (exec (.setFastBlink .lights 64) State.reset) =
        some (0, some .blinkRepeatsRange) := by
  decide

/-- R171's example. -/
theorem test_setSlowBlink :
    field (fun t => t.blink.doors) (exec (.setSlowBlink .doors 3) State.reset) = some 0x86 := by
  decide

/-- R173's example. -/
theorem test_paceAdvance :
    (advancePace ((Panel.reset (Config.atPaceLimit 39).paceBits).setPace 5)).pace = 6 := by
  decide

/-- R174's example, with a slow channel that the new parity lets act. -/
theorem test_paceRollover :
    field (fun t => (t.pace, t.parity, t.elapsed, t.blink.valet))
        (exec .paceRollover
          (fromReset fun s => (((s.setPace 39).setParity 3).setElapsed 10).setBlink .valet 0x94)) =
      some (0, 4, 11, 0x93) := by
  decide

/-- R177's example. -/
theorem test_blinkFastStep :
    field (fun t => (t.writes, t.blink.doors)) (exec (.blinkFastStep .doors true) (fromReset (·.setBlink .doors 0x10))) =
      some ([⟨.ind .doors, true⟩], 0x0F) := by
  decide

/-- R178's example. -/
theorem test_blinkSlowStep :
    field (fun t => (t.writes, t.blink.valet)) (exec (.blinkSlowStep .valet) (fromReset (·.setBlink .valet 0x94))) =
      some ([⟨.ind .valet, true⟩], 0x93) := by
  decide

/-- R179's example. -/
theorem test_blinkSlowSkip :
    field (fun t => (t.writes, t.blink.doors)) (exec (.blinkSlowSkip .doors) (fromReset (·.setBlink .doors 0x86))) =
      some ([], 0x86) := by
  decide

/-- R180's corner case. -/
theorem test_blinkIdle :
    field (fun t => (t.writes, t.blink.lights)) (exec (.blinkIdle .lights true false) (fromReset (·.setBlink .lights 0x80))) =
      some ([], 0x80) := by
  decide

/-- R202's example. -/
theorem test_bootMain : after (exec (.bootMain 0b1010) (accessoryAt 1 3 9)) = some State.reset := by decide

/-- R203's example. -/
theorem test_bootDemo :
    field (fun t => (t.mode, t.refused, t.sel)) (exec (.bootDemo 0b0000) (accessoryAt 1 3 9)) =
      some (.demo, some .demoMode, 0) := by
  decide

/-- R200's example, at `PACE_LIMIT = 39`. -/
theorem test_tick_idle :
    after (tickAt (Config.atPaceLimit 39) 0b0010 (Panel.reset _)) =
      some { Panel.reset (Config.atPaceLimit 39).paceBits with pace := 1, wdtKick := true } := by
  decide +kernel

/-- R200: an edge is consumed in its own tick, and its blink stepped there if the tick is a rollover. -/
theorem test_tick_same_tick_visibility :
    field (fun t => (t.writes, t.beeps, t.blink.lights))
        (tickAt (Config.atPaceLimit 39) 0b0011 ((channelPanel _ .lights 159 false).setPace 39)) =
      some ([⟨.relayLights, true⟩, ⟨.ind .lights, true⟩], [.lightsOn], 0x07) := by
  decide +kernel

/-! ### A case for the hypotheses of each statement -/

theorem test_hyp_DecodeAfterEncode :
    (Instr.setFastBlink .accessory 63).wellFormed = true ∧ (Instr.bootMain 0b0010).wellFormed = true ∧
      (Instr.bootDemo 0b0000).wellFormed = true := by
  decide

theorem test_hyp_EncodeAfterDecode : decode .fBreq 0b1111111110 = .op (.setSlowBlink .accessory 63) := by decide

theorem test_hyp_DecoderFollowsTable :
    (⟨"ACC_COMMIT", .gAc, 0xF, 0x3⟩ : Row) ∈ opcodeRows ∧ Format.gAc = Format.gAc.base ∧
      (⟨"ACC_COMMIT", .gAc, 0xF, 0x3⟩ : Row).accepts 3 = true := by
  decide

theorem test_hyp_NoOperationVectors :
    (true = true ∨ (2 : BitVec 2) ≠ 2) ∧ (false = true ∨ (1 : BitVec 2) ≠ 2) ∧
      ¬((0 : BitVec 2) = 0 ∧ true = true ∧ false = true) := by
  decide

theorem test_hyp_ReservedWordsRejected :
    (0x3FF : Word).getLsbD 0 = true ∧ 2 ^ Format.gVt.width ≤ (2 : Word).toNat := by
  decide

theorem test_hyp_LineAndCauseCodes :
    (OutLine.selLed .pick1).id = (OutLine.selLed .pick1).id ∧ (BeepCause.accSelect 3).code = (BeepCause.accSelect 3).code := by
  decide

theorem test_hyp_HardwarePaceFits :
    (0 + 2 ≤ 2 ^ 1 ∧ 2 + 2 ≤ 2 ^ 2) ∧ (Config.atPaceLimit 2).toParams.accept = some (Config.atPaceLimit 2) := by
  decide

theorem test_hyp_BeepMapConstraints :
    Config.beepPattern (.accSelect 1) = Config.beepPattern (.accSelect 1) := rfl

theorem test_hyp_boots : (0b0010 : RawIn).getLsbD 1 = true ∧ (0b1101 : RawIn).getLsbD 1 = false := by decide

/-- A state in DEMO mode, refused. -/
def demoState : State := State.reset.boot 0b0000

theorem test_hyp_StepRunsDecoded :
    (State.reset.load [.tick 0b1010 1]).stimulus = [⟨.fTick, 0b1010⟩] ∧ decode .fTick 0b1010 = .op (.tick 0b1010) ∧
      State.reset.refused = none := by
  decide

theorem test_hyp_StepRunsDecoded_boot :
    (demoState.load [.boot]).stimulus = [⟨.fBoot, 0b0010⟩] ∧ decode .fBoot 0b0010 = .op (.bootMain 0b0010) ∧
      demoState.refused ≠ none ∧ isBoot (.bootMain 0b0010) :=
  ⟨by decide, by decide, by decide, trivial⟩

theorem test_hyp_StepOnEmptyQueue : State.reset.stimulus = [] ∧ State.reset.refused = none := by decide

theorem test_hyp_StepWithoutOperation :
    decode (⟨.gLt, 0b00⟩ : Request).format 0b00 = .nothing ∧
      decode (⟨.gDt, 0b11⟩ : Request).format 0b11 = .rejected .unreachableVector := by
  decide

theorem test_hyp_RefusedOnlyLeftByBoot :
    demoState.refused = some .demoMode ∧ after (step (demoState.load [.boot])) = some State.reset ∧
      (after (exec (.debPress .lights) demoState)).isSome = true ∧ ¬ isBoot (.debPress .lights) :=
  ⟨by decide, by decide, by decide, id⟩

theorem test_hyp_OnlyBootChangesMode :
    field (fun t => t.mode) (step (State.reset.load [.reset 0b0000])) = some .demo ∧ State.reset.mode = .main := by
  decide

theorem test_hyp_TickFollowsPhases_refusals :
    demoState.refused ≠ none ∧ (demoState.mode = .demo ∧ { demoState with refused := none }.refused = none) ∧
      (accessoryAt 3 0 0).cphase = 3 ∧ (accessoryAt 3 0 0).refused = none := by
  decide

theorem test_hyp_ready : Ready State.reset := by
  refine ⟨?_, ?_, ?_⟩ <;> decide

theorem test_hyp_tick_next : ∃ t, Ready State.reset ∧ exec (.tick 0b1111) State.reset = .next t :=
  ⟨State.reset.withPanel (tickPhases Config.hardware 0b1111 State.reset.toPanel), test_hyp_ready,
    execTick_runs (s := State.reset) rfl rfl (by decide)⟩

theorem test_hyp_DebounceOrderIrrelevant :
    [Channel.accessory, .doors, .valet, .lights].Perm Channel.all := by
  decide

theorem test_hyp_HeldChangesOnlyAtLevels :
    field (fun t => t.held.accessory) (exec (.debPress .accessory) (channelAt .accessory 159 false)) = some true ∧
      field (fun t => t.held.lights) (exec (.debRelease .lights) (channelAt .lights 10 true)) = some false := by
  decide

theorem test_hyp_PressConfirmation :
    Ready State.reset ∧ State.reset.cnt.get .valet = 0 ∧ State.reset.held.get .valet = false ∧
      ∀ w ∈ List.replicate 160 (0b0000 : RawIn), pressed w .valet = true :=
  ⟨test_hyp_ready, by decide, by decide, fun _ h => (List.mem_replicate.mp h).2 ▸ by decide⟩

theorem test_hyp_ReleaseConfirmation :
    Ready (channelAt .doors 10 true) ∧ (channelAt .doors 10 true).held.get .doors = true ∧
      10 ≤ ((channelAt .doors 10 true).cnt.get .doors).toNat ∧
      10 ≤ ((channelAt .doors 160 true).cnt.get .doors).toNat ∧
      ∀ w ∈ List.replicate 151 (0b0010 : RawIn), pressed w .doors = false :=
  ⟨⟨rfl, rfl, (by decide : (0 : BitVec 2) ≠ 3)⟩, rfl, by decide, by decide,
    fun _ h => (List.mem_replicate.mp h).2 ▸ by decide⟩

theorem test_hyp_AccRearmResult :
    ((accessoryAt 2 0 0).cphase = 2 ∧ (accessoryAt 2 0 0).held.get .accessory = false) ∧
      (accessoryAt 1 0 0).cphase ≠ 2 ∧ lockedHeld.held.get .accessory = true := by
  decide

theorem test_hyp_AccCommitResult :
    ((accessoryAt 0 3 11).cphase = 0 ∧ (accessoryAt 0 3 11).sel = Pick.code .pick3 ∧
        10 < (accessoryAt 0 3 11).elapsed.toNat) ∧
      (accessoryAt 0 3 10).elapsed.toNat ≤ 10 ∧ (accessoryAt 0 0 11).sel = 0 ∧ (accessoryAt 1 3 11).cphase ≠ 0 := by
  decide

/-- A selection in WAIT with the button down: Pick1, 10 rollovers after its tap. -/
def holding : State :=
  fromReset fun _ => (((channelPanel _ .accessory 160 true).setSel 1).emit (.selLed .pick1) true).setElapsed 10

/-- A committed selection: Pick1 in JUST with the button down. -/
def justCommitted : State :=
  fromReset fun _ =>
    ((((channelPanel _ .accessory 160 true).setSel 1).setCphase 1).emit (.selLed .pick1) true).emit
      (.relayAcc .pick1) true

/-- The same with one boot queued. -/
def committed : State := justCommitted.load [.boot]

/-- A main boot is a word of the boot port. -/
theorem portsOnly_boot : PortsOnly committed := by
  intro r h
  exact ⟨0b0010, .inr (List.mem_singleton.mp h)⟩

theorem test_hyp_settled_holding : Settled holding := by
  refine ⟨fun r h => (List.not_mem_nil h).elim, fun ch => ?_, ⟨?_, fun h => ?_, ?_, fun k => ?_, ?_⟩, fun _ _ => ?_,
    Nat.zero_le _, ⟨rfl, rfl⟩, rfl, rfl⟩
  · cases ch <;> decide
  · decide
  · exact absurd h (by decide)
  · intro _ k; cases k <;> decide
  · cases k <;> decide
  · decide
  · decide

theorem test_hyp_settled_committed : Settled committed := by
  refine ⟨portsOnly_boot, fun ch => ?_, ⟨?_, fun _ => ⟨?_, fun k => ?_⟩, ?_, fun k => ?_, ?_⟩, ?_,
    Nat.zero_le _, ⟨rfl, rfl⟩, rfl, rfl⟩
  · cases ch <;> decide
  · decide
  · decide
  · cases k <;> decide
  · intro h; exact absurd rfl h
  · cases k <;> decide
  · decide
  · intro h; revert h; decide

/-- No edge with the button held on, and none with the button released after the tap. -/
theorem test_hyp_CommitTiming :
    holding.mode = .main ∧ holding.cphase = 0 ∧ holding.sel = Pick.code .pick1 ∧
      NoAccessoryEdge [0b1010] holding ∧ NoAccessoryEdge [0b0010] holding :=
  ⟨rfl, rfl, rfl, ⟨by decide, fun _ _ => trivial⟩, ⟨by decide, fun _ _ => trivial⟩⟩

theorem test_hyp_CommittedRelayStays :
    committed.mode = .main ∧ committed.cphase = 1 ∧ ∀ w ∈ [(0b0010 : RawIn), 0b0101], pressed w .accessory = false := by
  decide

theorem test_hyp_StepKeepsSettled : after (step committed) = some State.reset := by decide

/-- A tick of the committed selection with the button down completes, with the relay of Pick1 on. -/
theorem test_hyp_AtMostOneRelay :
    ∃ t, step (justCommitted.load [.tick 0b1010 1]) = .next t ∧ t.out.get (.relayAcc .pick1) = true := by
  refine ⟨_, execTick_runs (raw := 0b1010) (s := justCommitted) rfl rfl (by decide), ?_⟩
  simp only [tickPhases, kick_out]
  rw [blinkPhase_line _ _ (by simp)]
  decide +kernel

/-- The doors channel about to fall. -/
theorem test_hyp_UnreachableSelections :
    fall (debouncePhase Config.hardware 0b0010 (channelAt .doors 10 true).toPanel.beginTick) .doors = true := by
  decide

theorem test_hyp_blink_requests : (63 ≤ 63 ∧ 63 < 64) ∧ (0 : Nat) ≤ 63 := by decide

theorem test_hyp_PaceAdvanceResult :
    (38#(Config.atPaceLimit 39).paceBits).toNat + 1 ≤ (Config.atPaceLimit 39).paceLimit := by
  decide

theorem test_hyp_RolloverPeriod : PaceBounded State.reset.toPanel ∧ (0b0010 : RawIn).getLsbD 1 = true :=
  ⟨Nat.zero_le _, by decide⟩

theorem test_hyp_PaceRolloverResult :
    (blinkCount (0x01 : Byte) ≠ 0 ∧ blinkSlow Config.hardware (0x01 : Byte) = false) ∧
      (blinkCount (0x94 : Byte) ≠ 0 ∧ blinkSlow Config.hardware (0x94 : Byte) = true) ∧ blinkCount (0x80 : Byte) = 0 := by
  decide

theorem test_hyp_BlinkFastStepResult :
    blinkCount ((fromReset (·.setBlink .lights 0x7F)).blink.get .lights) ≠ 0 ∧
      blinkSlow Config.hardware ((fromReset (·.setBlink .lights 0x7F)).blink.get .lights) = false := by
  decide

theorem test_hyp_BlinkSlowStepResult :
    blinkCount ((fromReset (·.setBlink .doors 0x81)).blink.get .doors) ≠ 0 ∧
      blinkSlow Config.hardware ((fromReset (·.setBlink .doors 0x81)).blink.get .doors) = true := by
  decide

theorem test_hyp_writers :
    (field (fun t => t.out.get .relayLights) (exec .lightsOn State.reset) = some true ∧
      State.reset.out.get .relayLights = false) ∧ ¬ isExternal .lightsOn :=
  ⟨by decide, id⟩

theorem test_hyp_ReservedPhaseNeverEntered :
    committed.cphase ≠ 3 ∧ (after (step committed)).isSome = true := by
  decide

theorem test_hyp_HeldThroughResetSelectsPick1 :
    (0b1010 : RawIn).getLsbD 1 = true ∧ (List.replicate 160 (0b1010 : RawIn)).length = 160 ∧
      ∀ w ∈ List.replicate 160 (0b1010 : RawIn), pressed w .accessory = true :=
  ⟨by decide, List.length_replicate, fun _ h => (List.mem_replicate.mp h).2 ▸ by decide⟩

end Sys2Proof.Tests
end

namespace Sys2Proof.Machine

/-! ### The values after reset (spec/10_state.md R40), at every pace width -/

section ResetValues

variable (w : Nat) (ch : Channel)

@[simp] theorem Block.reset_cnt_get : (Block.reset w).cnt.get ch = 0 := PerCh.get_fill 0 ch
@[simp] theorem Block.reset_held_get : (Block.reset w).held.get ch = false := PerCh.get_fill false ch
@[simp] theorem Block.reset_oldHeld_get : (Block.reset w).oldHeld.get ch = false := PerCh.get_fill false ch
@[simp] theorem Block.reset_blink_get : (Block.reset w).blink.get ch = 0 := PerCh.get_fill 0 ch

/-- Every line is off after reset, by the line's kind. -/
@[simp] theorem Block.reset_out_get (line : OutLine) : (Block.reset w).out.get line = false := by
  cases line with
  | ind ch => exact PerCh.get_fill false ch
  | selLed k => exact PerPick.get_fill false k
  | relayLights => rfl
  | relayAcc k => exact PerPick.get_fill false k

end ResetValues

/-- The machine after reset holds the block's reset record (R40, spec/70_reset_and_hazards.md R240). -/
@[simp] theorem State.reset_toBlock : State.reset.toBlock = Block.reset Config.hardware.paceBits := rfl

/-- Settles O11: the channels and the lines by their lemmas, every other register by the reset record itself. -/
theorem resetValues : Obligations.ResetValues := by
  unfold Obligations.ResetValues
  refine ⟨fun ch => ?channels, rfl, rfl, rfl, rfl, rfl, rfl, fun line => ?lines, rfl, rfl⟩
  case channels =>
    simp only [State.reset_toBlock, Block.reset_cnt_get, Block.reset_held_get, Block.reset_oldHeld_get,
      Block.reset_blink_get, and_self]
  case lines => rw [State.reset_toBlock, Block.reset_out_get]

end Sys2Proof.Machine

namespace Sys2Proof.Machine

/-! ### The debounce operations alone (spec/40_debounce.md R101, R102) -/

section DebounceAlone

variable (ch : Channel) (s : State) (n : Byte) (b : Bool)

/-- `DEB_PRESS` is the channel's debounce of a pressed input. -/
theorem exec_debPress :
    exec (.debPress ch) s = .next (s.withPanel (debounceChannel Config.hardware ch true s.toPanel)) := by
  rw [debounceChannel_eq, if_pos rfl]; rfl

/-- `DEB_RELEASE` is the channel's debounce of a released input. -/
theorem exec_debRelease :
    exec (.debRelease ch) s = .next (s.withPanel (debounceChannel Config.hardware ch false s.toPanel)) := by
  rw [debounceChannel_eq, if_neg Bool.false_ne_true]; rfl

/-- `debounceChannel`'s frame, on the whole state: the environment's side stays too. -/
theorem withPanel_debounceChannel_frame (press : Bool) :
    s.withPanel (debounceChannel Config.hardware ch press s.toPanel) =
      { s with
        cnt := (debounceChannel Config.hardware ch press s.toPanel).cnt
        held := (debounceChannel Config.hardware ch press s.toPanel).held
        oldHeld := (debounceChannel Config.hardware ch press s.toPanel).oldHeld } :=
  congrArg s.withPanel (debounceChannel_spec Config.hardware ch press s.toPanel).1

/-- The counter after a press, as a number. -/
theorem debouncedCnt_press_toNat :
    (debouncedCnt Config.hardware true n).toNat = if n.toNat < 160 then n.toNat + 1 else n.toNat :=
  countUp_toNat n

/-- The counter after a release, as a number. -/
theorem debouncedCnt_release_toNat : (debouncedCnt Config.hardware false n).toNat = n.toNat - 1 :=
  countDown_toNat n

/-- A press sets the level when the new counter is at 160, and never clears it. -/
theorem debouncedHeld_press : debouncedHeld Config.hardware true n b = (decide (n.toNat = 160) || b) := by
  simp only [debouncedHeld, if_true, eq_threshold]

/-- A release clears the level when the new counter is below 10, and never sets it. -/
theorem debouncedHeld_release : debouncedHeld Config.hardware false n b = (b && !decide (n.toNat < 10)) := by
  simp only [debouncedHeld, Bool.false_eq_true, if_false, lt_releaseLevel]

/-- A press clears the edge memory of doors alone, below 10 (decision D7). -/
theorem debouncedOld_press :
    debouncedOld Config.hardware ch true n b = (b && !(decide (ch = .doors) && decide (n.toNat < 10))) := by
  simp only [debouncedOld, if_true, lt_releaseLevel]

/-- A release clears the edge memory of every channel but doors, below 10 (decision D7). -/
theorem debouncedOld_release :
    debouncedOld Config.hardware ch false n b = (b && !(decide (ch ≠ .doors) && decide (n.toNat < 10))) := by
  simp only [debouncedOld, Bool.false_eq_true, if_false, lt_releaseLevel]

end DebounceAlone

/-- Settles O24: `DEB_PRESS` is one channel's debounce, whose values at a pressed input are put in numbers. -/
theorem debPressResult : Obligations.DebPressResult := by
  unfold Obligations.DebPressResult
  intro ch s
  obtain ⟨-, hcnt, hheld, hold, hothers⟩ := debounceChannel_spec Config.hardware ch true s.toPanel
  rw [← hcnt, debouncedHeld_press] at hheld
  rw [← hcnt, debouncedOld_press] at hold
  have hnum := congrArg BitVec.toNat hcnt
  rw [debouncedCnt_press_toNat] at hnum
  exact ⟨_, exec_debPress ch s, hnum, hheld, hold, hothers, withPanel_debounceChannel_frame ch s true⟩

/-- Settles O25: `DEB_RELEASE` is one channel's debounce, whose values at a released input are put in numbers. -/
theorem debReleaseResult : Obligations.DebReleaseResult := by
  unfold Obligations.DebReleaseResult
  intro ch s
  obtain ⟨-, hcnt, hheld, hold, hothers⟩ := debounceChannel_spec Config.hardware ch false s.toPanel
  rw [← hcnt, debouncedHeld_release] at hheld
  rw [← hcnt, debouncedOld_release] at hold
  have hnum := congrArg BitVec.toNat hcnt
  rw [debouncedCnt_release_toNat] at hnum
  exact ⟨_, exec_debRelease ch s, hnum, hheld, hold, hothers, withPanel_debounceChannel_frame ch s false⟩

end Sys2Proof.Machine

namespace Sys2Proof

theorem Pick.mem_all (k : Pick) : k ∈ Pick.all := by
  cases k <;> decide

end Sys2Proof

namespace Sys2Proof.Machine

/-! ### The accessory operations alone (spec/41_accessory.md R121 to R124) -/

/-- Writing one channel, in the form the statements use. -/
theorem writesOnly_set {α : Type} (p : PerCh α) (ch : Channel) (a : α) : Safety.WritesOnly p (p.set ch a) ch a :=
  ⟨PerCh.get_set_self p ch a, fun _ h => PerCh.get_set_ne p a h⟩

section SelectionLoops

variable {w : Nat} (s : Panel w) (f : Pick → Bool)

/-- Writing a list of lines keeps the level of every other line. -/
theorem foldl_emit_get_of_ne (line : Pick → OutLine) (l : List Pick) {other : OutLine}
    (h : ∀ k ∈ l, other ≠ line k) :
    (l.foldl (fun t k => t.emit (line k) (f k)) s).out.get other = s.out.get other := by
  induction l generalizing s with
  | nil => rfl
  | cons j l ih =>
    obtain ⟨hj, hl⟩ := List.forall_mem_cons.mp h
    rw [List.foldl_cons, ih _ hl, emit_out, OutLevels.get_set, if_neg hj]

/-- Writing a list of distinct lines puts each at its level; a line named twice gets the same level again. -/
theorem foldl_emit_get_of_mem {line : Pick → OutLine} (hline : Function.Injective line) {l : List Pick} {k : Pick}
    (hk : k ∈ l) : (l.foldl (fun t k => t.emit (line k) (f k)) s).out.get (line k) = f k := by
  induction l generalizing s with
  | nil => cases hk
  | cons j l ih =>
    rw [List.foldl_cons]
    by_cases hl : k ∈ l
    · exact ih _ hl
    · obtain rfl := (List.mem_cons.mp hk).resolve_right hl
      have hne : ∀ i ∈ l, line k ≠ line i := fun i hi h => hl (hline h ▸ hi)
      rw [foldl_emit_get_of_ne _ f line l hne, emit_out, OutLevels.get_set, if_pos rfl]

/-- The loop over the hardware's LEDs puts every LED at its level. -/
theorem emitLeds_led (k : Pick) : (s.emitLeds Config.hardware f).out.get (.selLed k) = f k :=
  foldl_emit_get_of_mem s f (fun _ _ => OutLine.selLed.inj) (Pick.mem_all k)

/-- The loop over the LEDs keeps every other line. -/
theorem emitLeds_line (c : Config) {line : OutLine} (h : ∀ k, line ≠ .selLed k) :
    (s.emitLeds c f).out.get line = s.out.get line :=
  foldl_emit_get_of_ne s f _ _ fun k _ => h k

/-- The loop over the hardware's accessory relays de-energizes all of them. -/
theorem releaseRelays_relay (k : Pick) : (s.releaseRelays Config.hardware).out.get (.relayAcc k) = false :=
  foldl_emit_get_of_mem s (fun _ => false) (fun _ _ => OutLine.relayAcc.inj) (Pick.mem_all k)

/-- The loop over the accessory relays keeps every other line. -/
theorem releaseRelays_line (c : Config) {line : OutLine} (h : ∀ k, line ≠ .relayAcc k) :
    (s.releaseRelays c).out.get line = s.out.get line :=
  foldl_emit_get_of_ne s (fun _ => false) _ _ fun k _ => h k

end SelectionLoops

section AccessoryActions

variable {w : Nat} (c : Config) (s : Panel w)

/-- The levels `ACC_SELECT` leaves are those of its LED loop: no other part of it writes a line. -/
theorem selectAction_out :
    (selectAction c s).out =
      (((s.setOldHeld .accessory true).setSel (s.sel + 1)).emitLeds c fun k => decide (k.code = s.sel + 1)).out := rfl

/-- `ACC_SELECT` lights exactly the new selection's LED (R121). -/
theorem selectAction_led (k : Pick) :
    (selectAction Config.hardware s).out.get (.selLed k) = decide (k.code = s.sel + 1) := by
  rw [selectAction_out, emitLeds_led]

/-- `ACC_SELECT` writes no line but the LEDs (R121). -/
theorem selectAction_line {line : OutLine} (h : ∀ k, line ≠ .selLed k) :
    (selectAction c s).out.get line = s.out.get line := by
  rw [selectAction_out, emitLeds_line _ _ c h]; rfl

/-- The levels `ACC_CANCEL` leaves are those of its two loops, the LEDs' and then the relays'. -/
theorem cancelAction_out :
    (cancelAction c s).out =
      (((((s.setOldHeld .accessory true).emitLeds c fun _ => false).beep .accCancel).setSel 0).releaseRelays c).out :=
  rfl

/-- `ACC_CANCEL` turns every selection LED off (R122): the relay loop leaves what the LED loop wrote. -/
theorem cancelAction_led (k : Pick) : (cancelAction Config.hardware s).out.get (.selLed k) = false := by
  rw [cancelAction_out, releaseRelays_line _ _ fun _ => OutLine.noConfusion, setSel_out, beep_out, emitLeds_led]

/-- `ACC_CANCEL` de-energizes every accessory relay, whichever one was committed (R122). -/
theorem cancelAction_relay (k : Pick) : (cancelAction Config.hardware s).out.get (.relayAcc k) = false := by
  rw [cancelAction_out, releaseRelays_relay]

/-- `ACC_CANCEL` writes no line but the LEDs and the accessory relays (R122). -/
theorem cancelAction_line {line : OutLine} (h : ∀ k, line ≠ .selLed k ∧ line ≠ .relayAcc k) :
    (cancelAction c s).out.get line = s.out.get line := by
  rw [cancelAction_out, releaseRelays_line _ _ fun k => (h k).2, setSel_out, beep_out,
    emitLeds_line _ _ c fun k => (h k).1, setOldHeld_out]

/-- `ACC_REARM` where its condition holds (R124). -/
theorem rearmAction_of_released {s : Panel w} (hp : s.cphase = phaseLock) (hh : s.held.get .accessory = false) :
    rearmAction s = s.setCphase phaseWait :=
  if_pos ⟨hp, hh⟩

/-- `ACC_REARM` where its condition fails (R124). -/
theorem rearmAction_of_not {s : Panel w} (h : s.cphase ≠ phaseLock ∨ s.held.get .accessory = true) :
    rearmAction s = s :=
  if_neg fun ⟨hp, hh⟩ => h.elim (· hp) (by simp [hh])

end AccessoryActions

section AccessoryExec

variable (s : State)

theorem exec_accSelect : exec .accSelect s = .next (s.withPanel (selectAction Config.hardware s.toPanel)) := rfl

theorem exec_accCancel : exec .accCancel s = .next (s.withPanel (cancelAction Config.hardware s.toPanel)) := rfl

theorem exec_accEdgeLocked : exec .accEdgeLocked s = .next (s.withPanel (edgeLockedAction s.toPanel)) := rfl

theorem exec_accRearm : exec .accRearm s = .next (s.withPanel (rearmAction s.toPanel)) := rfl

end AccessoryExec

/-- Settles O35: the registers and the write list by `selectAction_frame`, the levels by its LED loop. -/
theorem accSelectResult : Obligations.AccSelectResult := by
  unfold Obligations.AccSelectResult
  intro s
  refine ⟨_, exec_accSelect s, ?edge, ?sel, ?elapsed, selectAction_led s.toPanel,
    fun _ h => selectAction_line _ s.toPanel h, ?writes, ?beeps, ?frame⟩
  case edge => rw [selectAction_frame]; exact writesOnly_set s.oldHeld .accessory true
  case sel => rw [selectAction_frame]; exact BitVec.toNat_add s.sel 1
  case writes => rw [selectAction_frame, hardware_picks]
  case elapsed | beeps | frame => rw [selectAction_frame]

/-- Settles O36: the registers and the write list by `cancelAction_frame`, the levels by its two loops. -/
theorem accCancelResult : Obligations.AccCancelResult := by
  unfold Obligations.AccCancelResult
  intro s
  refine ⟨_, exec_accCancel s, ?edge, ?sel, ?cphase, fun k => ⟨cancelAction_led s.toPanel k,
    cancelAction_relay s.toPanel k⟩, fun _ h => cancelAction_line _ s.toPanel h, ?writes, ?beeps, ?frame⟩
  case edge => rw [cancelAction_frame]; exact writesOnly_set s.oldHeld .accessory true
  case cphase => rw [cancelAction_frame, phaseLock]
  case writes => rw [cancelAction_frame, hardware_picks]
  case sel | beeps | frame => rw [cancelAction_frame]

/-- Settles O37: the one register `ACC_EDGE_LOCKED` writes is the accessory edge memory. -/
theorem accEdgeLockedResult : Obligations.AccEdgeLockedResult := by
  unfold Obligations.AccEdgeLockedResult
  exact fun s => ⟨_, exec_accEdgeLocked s, writesOnly_set s.oldHeld .accessory true, rfl⟩

/-- Settles O38, by the two cases of `ACC_REARM`'s condition. -/
theorem accRearmResult : Obligations.AccRearmResult := by
  unfold Obligations.AccRearmResult
  intro s
  rw [exec_accRearm]
  constructor
  · intro hp hh
    rw [rearmAction_of_released hp hh]; rfl
  · intro h
    rw [rearmAction_of_not h]

end Sys2Proof.Machine

namespace Sys2Proof.Machine

/-! ### The toggle actions alone (spec/42_toggle_actions.md R150, R151, R153) -/

section ToggleBytes

open Config

/-- The 4 fast repeats of `LIGHTS_ON` as a blink byte. -/
theorem requestByte_lightsOnFast : requestByte hardware false hardware.lightsOnFast = 0x08 :=
  (requestByte_ofNat (n := 4) (by omega)).1

/-- The 2 slow repeats of `LIGHTS_OFF` as a blink byte, `SLOW_FLAG` included. -/
theorem requestByte_lightsOffSlow : requestByte hardware true hardware.lightsOffSlow = 0x84 :=
  (requestByte_ofNat (n := 2) (by omega)).2

/-- The 8 fast repeats of `DOORS_RISE` as a blink byte. -/
theorem requestByte_doorsRiseFast : requestByte hardware false hardware.doorsRiseFast = 0x10 :=
  (requestByte_ofNat (n := 8) (by omega)).1

end ToggleBytes

section WrittenLine

variable {w : Nat} (s : Panel w) (line : OutLine) (level : Bool)

/-- A line just written is at the level written. -/
theorem emit_get_self : (s.emit line level).out.get line = level := by
  rw [emit_out, OutLevels.get_set, if_pos rfl]

/-- Writing a line keeps the level of every other one. -/
theorem emit_get_of_ne {other : OutLine} (h : other ≠ line) : (s.emit line level).out.get other = s.out.get other := by
  rw [emit_out, OutLevels.get_set, if_neg h]

end WrittenLine

section ToggleActions

variable {w : Nat} (c : Config) (s : Panel w)

/-- `LIGHTS_ON`: everything it writes (R150). -/
theorem lightsOnAction_eq :
    lightsOnAction c s =
      { s with
        oldHeld := s.oldHeld.set .lights true
        lightsOn := true
        blink := s.blink.set .lights (requestByte c false c.lightsOnFast)
        out := (s.emit .relayLights true).out
        writes := s.writes ++ [⟨.relayLights, true⟩]
        beeps := s.beeps ++ [.lightsOn] } := rfl

/-- `LIGHTS_OFF`: everything it writes (R151). -/
theorem lightsOffAction_eq :
    lightsOffAction c s =
      { s with
        oldHeld := s.oldHeld.set .lights true
        lightsOn := false
        blink := s.blink.set .lights (requestByte c true c.lightsOffSlow)
        out := (s.emit .relayLights false).out
        writes := s.writes ++ [⟨.relayLights, false⟩]
        beeps := s.beeps ++ [.lightsOff] } := rfl

/-- `DOORS_RISE`: everything it writes (R153). -/
theorem doorsRiseAction_eq :
    doorsRiseAction c s =
      { s with
        oldHeld := s.oldHeld.set .doors true
        blink := s.blink.set .doors (requestByte c false c.doorsRiseFast)
        beeps := s.beeps ++ [.doorsRise] } := rfl

end ToggleActions

section ToggleExec

variable (s : State)

theorem exec_lightsOn : exec .lightsOn s = .next (s.withPanel (lightsOnAction Config.hardware s.toPanel)) := rfl

theorem exec_lightsOff : exec .lightsOff s = .next (s.withPanel (lightsOffAction Config.hardware s.toPanel)) := rfl

theorem exec_doorsRise : exec .doorsRise s = .next (s.withPanel (doorsRiseAction Config.hardware s.toPanel)) := rfl

end ToggleExec

/-- Settles O30: the fields by `lightsOnAction_eq`, the lines by the one write to the lights relay. -/
theorem lightsOnResult : Obligations.LightsOnResult := by
  unfold Obligations.LightsOnResult
  intro s
  rw [exec_lightsOn, lightsOnAction_eq, requestByte_lightsOnFast]
  exact ⟨_, rfl, writesOnly_set s.oldHeld .lights true, rfl, writesOnly_set s.blink .lights 0x08,
    emit_get_self s.toPanel .relayLights true, fun _ h => emit_get_of_ne s.toPanel .relayLights true h, rfl, rfl, rfl⟩

/-- Settles O31: the fields by `lightsOffAction_eq`, the lines by the one write to the lights relay. -/
theorem lightsOffResult : Obligations.LightsOffResult := by
  unfold Obligations.LightsOffResult
  intro s
  rw [exec_lightsOff, lightsOffAction_eq, requestByte_lightsOffSlow]
  exact ⟨_, rfl, writesOnly_set s.oldHeld .lights true, rfl, writesOnly_set s.blink .lights 0x84,
    emit_get_self s.toPanel .relayLights false, fun _ h => emit_get_of_ne s.toPanel .relayLights false h, rfl, rfl, rfl⟩

/-- Settles O33: every field by `doorsRiseAction_eq`. -/
theorem doorsRiseResult : Obligations.DoorsRiseResult := by
  unfold Obligations.DoorsRiseResult
  intro s
  rw [exec_doorsRise, doorsRiseAction_eq, requestByte_doorsRiseFast]
  exact ⟨_, rfl, writesOnly_set s.oldHeld .doors true, writesOnly_set s.blink .doors 0x10, rfl, rfl⟩

end Sys2Proof.Machine

namespace Sys2Proof.Machine

/-! ### The channel steps alone (spec/43_blink.md R177 to R180) -/

section ForcedStep

variable {w : Nat} {ch : Channel} {s : Panel w}

/-- An acting step: everything it writes, the level by the parity of the whole byte (R177, R178). -/
theorem forceStep_writes (h : blinkCount (s.blink.get ch) ≠ 0) :
    forceStep ch s =
      { s with
        blink := s.blink.set ch (s.blink.get ch - 1)
        out := (s.emit (.ind ch) (decide ((s.blink.get ch).toNat % 2 = 0))).out
        writes := s.writes ++ [⟨.ind ch, decide ((s.blink.get ch).toNat % 2 = 0)⟩] } := by
  obtain ⟨-, -, -, -, hparity⟩ := stepped_byte _ h
  rw [forceStep_eq h, hparity]; rfl

/-- An acting step keeps the slow flag, so a slow channel ends at 0x80 (R178). -/
theorem blinkSlow_sub_one {b : Byte} (h : blinkCount b ≠ 0) :
    blinkSlow Config.hardware (b - 1) = blinkSlow Config.hardware b := by
  obtain ⟨-, -, hslow, -, -⟩ := stepped_byte b h
  exact hslow

/-- An acting step takes 1 from the count (R177, R178). -/
theorem blinkCount_sub_one {b : Byte} (h : blinkCount b ≠ 0) :
    (blinkCount (b - 1)).toNat = (blinkCount b).toNat - 1 := by
  obtain ⟨-, -, -, hcount, -⟩ := stepped_byte b h
  exact hcount

end ForcedStep

section ChannelExec

variable (ch : Channel) (slow q : Bool) (s : State)

theorem exec_blinkFastStep : exec (.blinkFastStep ch q) s = .next (s.withPanel (forceStep ch s.toPanel)) := rfl

theorem exec_blinkSlowStep : exec (.blinkSlowStep ch) s = .next (s.withPanel (forceStep ch s.toPanel)) := rfl

theorem exec_blinkSlowSkip : exec (.blinkSlowSkip ch) s = .next s := rfl

theorem exec_blinkIdle : exec (.blinkIdle ch slow q) s = .next s := rfl

theorem exec_paceRollover :
    exec .paceRollover s = .next (s.withPanel (rolloverPace Config.hardware s.toPanel)) := rfl

end ChannelExec

/-- Settles O48: neither operation's meaning reads or writes the panel. -/
theorem blinkSkipAndIdleWriteNothing : Obligations.BlinkSkipAndIdleWriteNothing := by
  unfold Obligations.BlinkSkipAndIdleWriteNothing
  exact fun ch slow q s => ⟨exec_blinkSlowSkip ch s, exec_blinkIdle ch slow q s⟩

/-- Settles O46: every field by `forceStep_writes`, the lines by the one write to the indicator. -/
theorem blinkFastStepResult : Obligations.BlinkFastStepResult := by
  unfold Obligations.BlinkFastStepResult
  intro ch q s hcount _
  rw [exec_blinkFastStep, forceStep_writes hcount]
  refine ⟨_, rfl, emit_get_self s.toPanel (.ind ch) _, fun _ h => emit_get_of_ne s.toPanel (.ind ch) _ h,
    writesOnly_set s.blink ch (s.blink.get ch - 1), ?writes, rfl⟩
  case writes => rw [emit_get_self]

/-- Settles O47: as the fast step, with the slow flag of the new byte by `blinkSlow_sub_one`. -/
theorem blinkSlowStepResult : Obligations.BlinkSlowStepResult := by
  unfold Obligations.BlinkSlowStepResult
  intro ch s hcount hslow
  rw [exec_blinkSlowStep, forceStep_writes hcount]
  refine ⟨_, rfl, emit_get_self s.toPanel (.ind ch) _, fun _ h => emit_get_of_ne s.toPanel (.ind ch) _ h,
    writesOnly_set s.blink ch (s.blink.get ch - 1), ?flag, ?writes, rfl⟩
  case flag => rw [PerCh.get_set_self, blinkSlow_sub_one hcount, hslow]
  case writes => rw [emit_get_self]

end Sys2Proof.Machine

namespace Sys2Proof

theorem Channel.nodup_all : Channel.all.Nodup := by decide

end Sys2Proof

namespace Sys2Proof.Machine

/-! ### The rollover's channel steps in sequence (spec/43_blink.md R174, R181) -/

section ChannelActing

variable {w : Nat} (c : Config)

/-- The channel's step acts: its count is not 0, and it is fast or the parity is even (R181). -/
def channelActs (s : Panel w) (ch : Channel) : Bool :=
  decide (blinkCount (s.blink.get ch) ≠ 0 ∧ (blinkSlow c (s.blink.get ch) = false ∨ s.parity.toNat % 2 = 0))

/-- The output write of the channel's acting step: on for an even count (R177, R178). -/
def channelWrite (s : Panel w) (ch : Channel) : OutWrite :=
  ⟨.ind ch, decide ((blinkCount (s.blink.get ch)).toNat % 2 = 0)⟩

/-- A channel step that acts writes the indicator and takes 1 from the byte. -/
theorem channelStep_of_acts {s : Panel w} {ch : Channel} (h : channelActs c s ch = true) :
    channelStep c ch s =
      (s.emit (.ind ch) (channelWrite s ch).level).setBlink ch (s.blink.get ch - 1) :=
  (channelStep_numbers c ch s).trans (if_pos (of_decide_eq_true h))

/-- A channel step that does not act has no effect. -/
theorem channelStep_of_not_acts {s : Panel w} {ch : Channel} (h : channelActs c s ch = false) :
    channelStep c ch s = s :=
  (channelStep_numbers c ch s).trans (if_neg (of_decide_eq_false h))

/-- The writes a channel step appends: its own, where it acts. -/
theorem channelStep_writes (s : Panel w) (ch : Channel) :
    (channelStep c ch s).writes = s.writes ++ if channelActs c s ch then [channelWrite s ch] else [] := by
  cases h : channelActs c s ch with
  | true => rw [channelStep_of_acts c h]; rfl
  | false => rw [channelStep_of_not_acts c h, if_neg Bool.false_ne_true, List.append_nil]

end ChannelActing

/-- Two panels agree on everything the step of channel `ch` reads and writes but the write list. -/
structure AgreeAt {w : Nat} (ch : Channel) (s t : Panel w) : Prop where
  parity : s.parity = t.parity
  blink : s.blink.get ch = t.blink.get ch
  ind : s.out.get (.ind ch) = t.out.get (.ind ch)

section Agreement

variable {w : Nat} {c : Config} {ch : Channel} {s t u : Panel w}

theorem AgreeAt.refl (ch : Channel) (s : Panel w) : AgreeAt ch s s := ⟨rfl, rfl, rfl⟩

theorem AgreeAt.trans (h : AgreeAt ch s t) (h' : AgreeAt ch t u) : AgreeAt ch s u :=
  ⟨h.parity.trans h'.parity, h.blink.trans h'.blink, h.ind.trans h'.ind⟩

theorem AgreeAt.channelActs_eq (h : AgreeAt ch s t) : channelActs c s ch = channelActs c t ch := by
  simp only [channelActs, h.blink, h.parity]

theorem AgreeAt.channelWrite_eq (h : AgreeAt ch s t) : channelWrite s ch = channelWrite t ch := by
  simp only [channelWrite, h.blink]

/-- The channel's own step keeps the agreement. -/
theorem AgreeAt.channelStep_congr (h : AgreeAt ch s t) : AgreeAt ch (channelStep c ch s) (channelStep c ch t) := by
  cases ha : channelActs c t ch with
  | true =>
    rw [channelStep_of_acts c ha, channelStep_of_acts c (h.channelActs_eq.trans ha), h.channelWrite_eq, h.blink]
    exact ⟨h.parity, by simp only [setBlink_blink, PerCh.get_set_self],
      by simp only [setBlink_out, emit_get_self]⟩
  | false =>
    rwa [channelStep_of_not_acts c ha, channelStep_of_not_acts c (h.channelActs_eq.trans ha)]

/-- The step of another channel is not seen. -/
theorem agreeAt_channelStep_of_ne {other : Channel} (h : ch ≠ other) : AgreeAt ch (channelStep c other s) s := by
  obtain ⟨hframe, hblink, hline⟩ := channelStep_frame c other s
  exact ⟨by rw [hframe], hblink ch h, hline (.ind ch) fun he => h (OutLine.ind.inj he)⟩

/-- The steps of other channels are not seen. -/
theorem agreeAt_foldl_of_notMem {l : List Channel} (h : ch ∉ l) :
    AgreeAt ch (l.foldl (fun t ch => channelStep c ch t) s) s := by
  induction l generalizing s with
  | nil => exact .refl ch s
  | cons j l ih =>
    obtain ⟨hj, hl⟩ := not_or.mp (List.mem_cons.not.mp h)
    exact (ih hl).trans (agreeAt_channelStep_of_ne hj)

/-- Stepping distinct channels is, to each of them, its own step from the start. -/
theorem agreeAt_foldl_of_mem {l : List Channel} (hl : l.Nodup) (h : ch ∈ l) :
    AgreeAt ch (l.foldl (fun t ch => channelStep c ch t) s) (channelStep c ch s) := by
  induction l generalizing s with
  | nil => cases h
  | cons j l ih =>
    obtain ⟨hj, hl⟩ := List.nodup_cons.mp hl
    by_cases he : ch = j
    · subst he; exact agreeAt_foldl_of_notMem hj
    · have hmem : ch ∈ l := (List.mem_cons.mp h).resolve_left he
      exact (ih hl hmem).trans (agreeAt_channelStep_of_ne he).channelStep_congr

/-- Stepping distinct channels appends the writes of those that act, in the order of the list (R174). -/
theorem foldl_channelStep_writes {l : List Channel} (hl : l.Nodup) :
    (l.foldl (fun t ch => channelStep c ch t) s).writes =
      s.writes ++ (l.filter (channelActs c s)).map (channelWrite s) := by
  induction l generalizing s with
  | nil => exact (List.append_nil _).symm
  | cons j l ih =>
    obtain ⟨hj, hl⟩ := List.nodup_cons.mp hl
    have hsame : ∀ ch ∈ l, AgreeAt ch (channelStep c j s) s :=
      fun ch hch => agreeAt_channelStep_of_ne fun he => hj (he ▸ hch)
    have hacts : l.filter (channelActs c (channelStep c j s)) = l.filter (channelActs c s) :=
      List.filter_congr fun ch hch => (hsame ch hch).channelActs_eq
    have hwrites : (l.filter (channelActs c s)).map (channelWrite (channelStep c j s)) =
        (l.filter (channelActs c s)).map (channelWrite s) :=
      List.map_congr_left fun ch hch => (hsame ch (List.mem_of_mem_filter hch)).channelWrite_eq
    rw [List.foldl_cons, ih hl, channelStep_writes, hacts, hwrites, List.append_assoc, List.filter_cons]
    cases channelActs c s j <;> rfl

end Agreement

section Rollover

variable {w : Nat} (s : Panel w)

/-- To each channel a rollover of the hardware is its own step, at the new parity (R174, R181). -/
theorem rolloverPace_agreeAt (ch : Channel) :
    AgreeAt ch (rolloverPace Config.hardware s) (channelStep Config.hardware ch (rolloverCounters s)) :=
  agreeAt_foldl_of_mem Channel.nodup_all ch.mem_all

/-- The writes of a rollover of the hardware: those of the acting channels, in the order L, V, D, A (R174). -/
theorem rolloverPace_writes :
    (rolloverPace Config.hardware s).writes =
      s.writes ++ (Channel.all.filter (channelActs Config.hardware (rolloverCounters s))).map (channelWrite s) :=
  foldl_channelStep_writes (s := rolloverCounters s) Channel.nodup_all

theorem rolloverPace_parity (c : Config) : (rolloverPace c s).parity = s.parity + 1 := by
  rw [rolloverPace_frame]

/-- A rollover of the hardware on a channel that acts at the new parity. -/
theorem rolloverPace_of_acts {ch : Channel} (h : channelActs Config.hardware (rolloverCounters s) ch = true) :
    (rolloverPace Config.hardware s).blink.get ch = s.blink.get ch - 1 ∧
      (rolloverPace Config.hardware s).out.get (.ind ch) = (channelWrite s ch).level := by
  have hagree := rolloverPace_agreeAt s ch
  rw [channelStep_of_acts _ h] at hagree
  exact ⟨hagree.blink.trans (PerCh.get_set_self _ ch _), hagree.ind.trans (emit_get_self _ (.ind ch) _)⟩

/-- A rollover of the hardware on a channel that does not act at the new parity. -/
theorem rolloverPace_of_not_acts {ch : Channel} (h : channelActs Config.hardware (rolloverCounters s) ch = false) :
    (rolloverPace Config.hardware s).blink.get ch = s.blink.get ch ∧
      (rolloverPace Config.hardware s).out.get (.ind ch) = s.out.get (.ind ch) := by
  have hagree := rolloverPace_agreeAt s ch
  rw [channelStep_of_not_acts _ h] at hagree
  exact ⟨hagree.blink, hagree.ind⟩

end Rollover

/-- Settles O45: the counters and the frame by `rolloverPace_frame`; each channel by its own step from the start, since
the steps of the other channels are not seen. -/
theorem paceRolloverResult : Obligations.PaceRolloverResult := by
  unfold Obligations.PaceRolloverResult
  intro s
  refine ⟨_, exec_paceRollover s, ?pace, ?parity, ?elapsed, fun ch => ?channel, ?writes,
    fun _ h => rolloverPace_line _ s.toPanel h, ?frame⟩
  case parity => rw [rolloverPace_frame]; exact BitVec.toNat_add s.parity 1
  case elapsed => rw [rolloverPace_frame]; exact BitVec.toNat_add s.elapsed 1
  case channel =>
    rw [rolloverPace_parity]
    constructor
    · intro hacts
      obtain ⟨hblink, hind⟩ := rolloverPace_of_acts s.toPanel (decide_eq_true hacts)
      obtain ⟨hcount, -⟩ := hacts
      rw [hblink]
      exact ⟨blinkCount_sub_one hcount, blinkSlow_sub_one hcount, hind⟩
    · intro hidle
      exact rolloverPace_of_not_acts s.toPanel (decide_eq_false hidle)
  case writes => rw [rolloverPace_parity]; exact rolloverPace_writes s.toPanel
  case pace | frame => rw [rolloverPace_frame]

end Sys2Proof.Machine

namespace Sys2Proof

/-! ### Blink request words, field by field (spec/30_encoding.md R75) -/

section BlinkRequestWord

variable (ch : Channel) (slow : Bool) (r : BitVec 6)

/-- A blink request word is even: bit 0 is reserved (R85). -/
theorem breqWord_bit_zero : (breqWord ch slow r).getLsbD 0 = false := by
  simp only [breqWord, BitVec.getLsbD_append]; rfl

/-- Bit 7 of a blink request word is its rate. -/
theorem breqWord_rate : (breqWord ch slow r).getLsbD 7 = slow := by
  simp only [breqWord, BitVec.getLsbD_append]; cases slow <;> rfl

/-- Bits 6 to 1 of a blink request word are its repeats. -/
theorem breqWord_repeats : (breqWord ch slow r).extractLsb' 1 6 = r := by
  apply BitVec.eq_of_getLsbD_eq
  intro i hi
  simp only [breqWord, BitVec.getLsbD_extractLsb', BitVec.getLsbD_append, hi, decide_true, Bool.true_and]
  rw [if_neg (by omega), if_pos (by omega)]
  congr 1; omega

/-- Bits 9 and 8 of a blink request word are its channel's index. -/
theorem breqWord_channel : (breqWord ch slow r).extractLsb' 8 2 = ch.index := by
  apply BitVec.eq_of_getLsbD_eq
  intro i hi
  simp only [breqWord, BitVec.getLsbD_extractLsb', BitVec.getLsbD_append, hi, decide_true, Bool.true_and]
  rw [if_neg (by omega), if_neg (by omega), if_neg (by omega)]
  congr 1; omega

/-- A blink request word decodes to the request of its fields. -/
theorem decode_breqWord :
    decode .fBreq (breqWord ch slow r) =
      .op (if slow then .setSlowBlink ch r.toNat else .setFastBlink ch r.toNat) := by
  rw [decode_of_fits (breqWord ch slow r).isLt, decodeFits, breqWord_bit_zero, breqWord_rate, breqWord_repeats,
    breqWord_channel, Channel.ofIndex_index]
  cases slow <;> rfl

/-- An even word is the blink request of the fields it is read as. -/
theorem breqWord_of_fields {w : Word} (h : w.getLsbD 0 = false) :
    breqWord (Channel.ofIndex (w.extractLsb' 8 2)) (w.getLsbD 7) (w.extractLsb' 1 6) = w := by
  apply BitVec.eq_of_getLsbD_eq
  intro i hi
  simp only [breqWord, Channel.index_ofIndex, BitVec.getLsbD_append, BitVec.getLsbD_extractLsb']
  obtain rfl | hr | rfl | hc : i = 0 ∨ (1 ≤ i ∧ i < 7) ∨ i = 7 ∨ 8 ≤ i := by omega
  · rw [h]; rfl
  · rw [if_neg (by omega), if_pos (by omega), decide_eq_true (by omega), Bool.true_and]
    congr 1; omega
  · simp
  · rw [if_neg (by omega), if_neg (by omega), if_neg (by omega), decide_eq_true (by omega), Bool.true_and]
    congr 1; omega

end BlinkRequestWord

/-! ### Decoding what was encoded (R84) -/

/-- A tick word decodes to the tick of its input word (R71). -/
theorem decode_tickRequest (raw : RawIn) : decode .fTick (raw.setWidth 10) = .op (.tick raw) := by
  revert raw; decide

/-- A boot word decodes to the boot its valet bit selects (R73). -/
theorem decode_bootRequest (raw : RawIn) :
    decode .fBoot (raw.setWidth 10) = .op (if raw.getLsbD 1 then .bootMain raw else .bootDemo raw) := by
  revert raw; decide

/-- Settles O1, by the operation: operands are read back field by field, and a fixed word is evaluated. -/
theorem decodeAfterEncode : Obligations.DecodeAfterEncode := by
  unfold Obligations.DecodeAfterEncode
  intro i hwf
  cases i with
  | tick raw => exact decode_tickRequest raw
  | bootMain raw => exact (decode_bootRequest raw).trans (congrArg Decoded.op (if_pos hwf))
  | bootDemo raw =>
    have hvalet : raw.getLsbD 1 = false := by simpa [Instr.wellFormed] using hwf
    exact (decode_bootRequest raw).trans (by rw [hvalet]; rfl)
  | setFastBlink ch n =>
    have hn : n % 2 ^ 6 = n := Nat.mod_eq_of_lt (Nat.lt_succ_of_le (of_decide_eq_true hwf))
    exact (decode_breqWord ch false _).trans (by rw [BitVec.toNat_ofNat, hn]; rfl)
  | setSlowBlink ch n =>
    have hn : n % 2 ^ 6 = n := Nat.mod_eq_of_lt (Nat.lt_succ_of_le (of_decide_eq_true hwf))
    exact (decode_breqWord ch true _).trans (by rw [BitVec.toNat_ofNat, hn]; rfl)
  | debPress ch | debRelease ch | blinkSlowStep ch | blinkSlowSkip ch => cases ch <;> decide
  | blinkIdle ch slow q => exact (Machine.decode_gBc_bits ch false slow q).trans (if_neg Bool.false_ne_true)
  | blinkFastStep ch q => exact Machine.decode_gBc_bits ch true false q
  | accSelect | accCancel | accEdgeLocked | accRearm | accCommit | lightsOn | lightsOff | valetPulse | doorsRise
  | doorsFall | paceAdvance | paceRollover => decide

/-! ### Encoding what was decoded (R84) -/

/-- Whatever operation a word decodes to encodes to that format and word, and is well-formed. -/
def Reencodes (f : Format) (w : Word) : Prop :=
  ∀ i ∈ (decode f w).instr?, encode i = ⟨f, w⟩ ∧ i.wellFormed = true

theorem Reencodes.of_op {f : Format} {w : Word} {i : Instr} (h : Reencodes f w) (hd : decode f w = .op i) :
    encode i = ⟨f, w⟩ ∧ i.wellFormed = true :=
  h i (by rw [hd]; rfl)

theorem Reencodes.of_decode {f : Format} {w : Word} {i : Instr} (hd : decode f w = .op i)
    (h : encode i = ⟨f, w⟩ ∧ i.wellFormed = true) : Reencodes f w := by
  intro j hj
  rw [hd] at hj
  exact Option.some.inj hj ▸ h

/-- Every format but the blink request is at most four bits wide (R71, R73, R83). -/
theorem Format.width_le_four {f : Format} (h : f ≠ .fBreq) : f.width ≤ 4 := by
  cases f with
  | fBreq => exact absurd rfl h
  | gBc ch => exact Nat.le_succ 3
  | fTick | fBoot | gDeb | gLt | gVt | gDt | gAe | gAr | gAc | gPs => decide

/-- What holds of the sixteen words of four bits holds of every word of a format that is not the blink request. -/
theorem narrow_word_cases {f : Format} (hf : f ≠ .fBreq) {P : Word → Prop} (h : ∀ n < 16, P (BitVec.ofNat 10 n))
    {w : Word} (hw : w.toNat < 2 ^ f.width) : P w := by
  have hle : 2 ^ f.width ≤ 2 ^ 4 := Nat.pow_le_pow_right (by decide) (Format.width_le_four hf)
  simpa using h w.toNat (by omega)

/-- The narrow words re-encode, format by format. -/
theorem reencodes_narrow {f : Format} (hf : f ≠ .fBreq) : ∀ n < 16, Reencodes f (BitVec.ofNat 10 n) := by
  unfold Reencodes
  cases f with
  | fBreq => exact absurd rfl hf
  | gBc ch => cases ch <;> decide
  | fTick | fBoot | gDeb | gLt | gVt | gDt | gAe | gAr | gAc | gPs => decide

/-- A blink request word re-encodes: an even word is that of its fields, and an odd one decodes to nothing. -/
theorem reencodes_fBreq (w : Word) : Reencodes .fBreq w := by
  cases h0 : w.getLsbD 0 with
  | true =>
    have hd : decode .fBreq w = .rejected .oddRequest := by
      rw [decode_of_fits w.isLt, decodeFits, if_pos h0]
    intro i hi
    rw [hd] at hi
    cases hi
  | false =>
    have hw := breqWord_of_fields h0
    generalize Channel.ofIndex (w.extractLsb' 8 2) = ch, w.getLsbD 7 = slow, w.extractLsb' 1 6 = r at hw
    subst hw
    have hr : r.toNat ≤ 63 := Nat.le_of_lt_succ r.isLt
    refine .of_decode (decode_breqWord ch slow r) ?_
    cases slow <;> simp [encode, Instr.wellFormed, hr]

/-- A word too wide for its format decodes to nothing, so it re-encodes. -/
theorem reencodes_wide {f : Format} {w : Word} (h : ¬ w.toNat < 2 ^ f.width) : Reencodes f w := by
  intro i hi
  rw [decode_of_wide h] at hi
  cases hi

/-- Settles O2: the blink request by its fields, every other format by its words of at most four bits. -/
theorem encodeAfterDecode : Obligations.EncodeAfterDecode := by
  unfold Obligations.EncodeAfterDecode
  intro f w i hd
  refine Reencodes.of_op ?_ hd
  by_cases hw : w.toNat < 2 ^ f.width
  · by_cases hf : f = .fBreq
    · exact hf ▸ reencodes_fBreq w
    · exact narrow_word_cases hf (reencodes_narrow hf) hw
  · exact reencodes_wide hw

/-! ### The decoder and the opcode table (R84) -/

/-- Every well-formed operation is encoded in its own row of the table. -/
theorem encodesInItsRow (i : Instr) : Laws.EncodesInItsRow.Statement i := by
  cases i with
  | tick raw => exact Laws.EncodesInItsRow.tick raw
  | bootMain raw => exact Laws.EncodesInItsRow.bootMain raw
  | bootDemo raw => exact Laws.EncodesInItsRow.bootDemo raw
  | setFastBlink ch n => exact Laws.EncodesInItsRow.setFastBlink ch n
  | setSlowBlink ch n => exact Laws.EncodesInItsRow.setSlowBlink ch n
  | debPress ch => exact Laws.EncodesInItsRow.debPress ch
  | debRelease ch => exact Laws.EncodesInItsRow.debRelease ch
  | accSelect => exact Laws.EncodesInItsRow.accSelect
  | accCancel => exact Laws.EncodesInItsRow.accCancel
  | accEdgeLocked => exact Laws.EncodesInItsRow.accEdgeLocked
  | accRearm => exact Laws.EncodesInItsRow.accRearm
  | accCommit => exact Laws.EncodesInItsRow.accCommit
  | lightsOn => exact Laws.EncodesInItsRow.lightsOn
  | lightsOff => exact Laws.EncodesInItsRow.lightsOff
  | valetPulse => exact Laws.EncodesInItsRow.valetPulse
  | doorsRise => exact Laws.EncodesInItsRow.doorsRise
  | doorsFall => exact Laws.EncodesInItsRow.doorsFall
  | paceAdvance => exact Laws.EncodesInItsRow.paceAdvance
  | paceRollover => exact Laws.EncodesInItsRow.paceRollover
  | blinkIdle ch slow q => exact Laws.EncodesInItsRow.blinkIdle ch slow q
  | blinkFastStep ch q => exact Laws.EncodesInItsRow.blinkFastStep ch q
  | blinkSlowStep ch => exact Laws.EncodesInItsRow.blinkSlowStep ch
  | blinkSlowSkip ch => exact Laws.EncodesInItsRow.blinkSlowSkip ch

/-- Every row of the format that accepts the word is that of the operation the word decodes to. -/
def RowsDecoded (f : Format) (w : Word) : Prop :=
  ∀ r ∈ opcodeRows, r.format = f.base → r.accepts w = true →
    (decode f w).instr?.map Instr.mnemonic = some r.mnemonic

theorem RowsDecoded.exists_op {f : Format} {w : Word} (h : RowsDecoded f w) {r : Row} (hr : r ∈ opcodeRows)
    (hf : r.format = f.base) (ha : r.accepts w = true) :
    ∃ i : Instr, decode f w = .op i ∧ i.mnemonic = r.mnemonic := by
  have hm := h r hr hf ha
  cases hd : decode f w with
  | op i => exact ⟨i, rfl, by rw [hd] at hm; exact Option.some.inj hm⟩
  | nothing | rejected _ => rw [hd] at hm; cases hm

theorem Format.base_width (f : Format) : f.base.width = f.width := by
  cases f <;> rfl

theorem Row.accepts_iff {r : Row} {w : Word} :
    r.accepts w = true ↔ w.toNat < 2 ^ r.format.width ∧ w &&& r.mask = r.value := by
  simp [Row.accepts]

/-- The narrow words, format by format. -/
theorem rowsDecoded_narrow {f : Format} (hf : f ≠ .fBreq) : ∀ n < 16, RowsDecoded f (BitVec.ofNat 10 n) := by
  unfold RowsDecoded
  cases f with
  | fBreq => exact absurd rfl hf
  | gBc ch => cases ch <;> decide
  | fTick | fBoot | gDeb | gLt | gVt | gDt | gAe | gAr | gAc | gPs => decide

/-- The two rows of the blink request fix bit 0 at 0 and the rate (R75, R85). -/
theorem breq_rows : ∀ r ∈ opcodeRows, r.format = .fBreq → r.mask = 0x81 ∧
    (r.value = 0 ∧ r.mnemonic = "SET_FAST_BLINK" ∨ r.value = 0x80 ∧ r.mnemonic = "SET_SLOW_BLINK") := by
  decide

/-- A blink request word that a row accepts is even, and its rate is the row's. -/
theorem rowsDecoded_fBreq (w : Word) : RowsDecoded .fBreq w := by
  intro r hr hf ha
  obtain ⟨-, hbits⟩ := Row.accepts_iff.mp ha
  obtain ⟨hmask, hrow⟩ := breq_rows r hr hf
  rw [hmask] at hbits
  have hbit (k : Nat) : (w.getLsbD k && (0x81 : Word).getLsbD k) = r.value.getLsbD k := by
    rw [← BitVec.getLsbD_and, hbits]
  have h0 := hbit 0
  have h7 := hbit 7
  rw [decode_of_fits w.isLt, decodeFits]
  obtain ⟨hval, hmn⟩ | ⟨hval, hmn⟩ := hrow <;> rw [hval] at h0 h7 <;>
    rw [show w.getLsbD 0 = false by simpa using h0] <;> rw [hmn]
  · rw [show w.getLsbD 7 = false by simpa using h7]; rfl
  · rw [show w.getLsbD 7 = true by simpa using h7]; rfl

/-- Settles O3: an operation's row by its encoding, which is the word it was decoded from; a row's operation for the
blink request by the bits its two rows fix, and for every other format by its words of at most four bits. -/
theorem decoderFollowsTable : Obligations.DecoderFollowsTable := by
  unfold Obligations.DecoderFollowsTable
  refine ⟨fun f w i hd => ?row, fun f w r hr hf ha => ?op⟩
  case row =>
    obtain ⟨henc, hwf⟩ := encodeAfterDecode f w i hd
    have hrow := encodesInItsRow i hwf
    rwa [henc] at hrow
  case op =>
    refine RowsDecoded.exists_op ?_ hr hf ha
    by_cases hb : f = .fBreq
    · exact hb ▸ rowsDecoded_fBreq w
    · have hw := (Row.accepts_iff.mp ha).1
      rw [hf, Format.base_width] at hw
      exact narrow_word_cases hb (rowsDecoded_narrow hb) hw

end Sys2Proof

namespace Sys2Proof.Machine

/-! ### Words that select nothing, sample words and reserved words (spec/30_encoding.md R84 to R86) -/

/-- Settles O4: each format's vector by what its bits select. -/
theorem noOperationVectors : Obligations.NoOperationVectors := by
  unfold Obligations.NoOperationVectors
  refine ⟨decode_gLt_bits false, decode_gVt_bits false, decode_gDt_bits false false, decode_gAe_bits false,
    fun h p hne => ?rearm, fun p z e hne => ?commit⟩
  case rearm =>
    refine (decode_gAr_bits h p).trans (if_neg fun ⟨hreleased, hlock⟩ => ?_)
    exact hne.elim (by simp [hreleased]) (· hlock)
  case commit => exact (decode_gAc_bits p z e).trans (if_neg hne)

/-- Settles O5: fifteen words, evaluated. -/
theorem sampleWordsDecode : Obligations.SampleWordsDecode := by
  unfold Obligations.SampleWordsDecode
  decide

/-- Settles O6: the two unreachable vectors by their bits, the rest by the decoder's first tests. -/
theorem reservedWordsRejected : Obligations.ReservedWordsRejected := by
  unfold Obligations.ReservedWordsRejected
  refine ⟨decode_gAe_bits true phaseReserved, decode_gDt_bits true true, fun w hodd => ?odd, fun f w hwide => ?wide⟩
  case odd => rw [decode_of_fits w.isLt, decodeFits, if_pos hodd]
  case wide => exact decode_of_wide (Nat.not_lt.mpr hwide)

/-! ### The request byte and the codes (R75, R79, R80) -/

/-- The byte a request writes is the low 8 bits of its word: the channel stands above them. -/
theorem requestByte_eq_breqWord (ch : Channel) (slow : Bool) (r : BitVec 6) :
    requestByte Config.hardware slow r = (breqWord ch slow r).setWidth 8 := by
  cases ch <;> revert slow r <;> decide

/-- Settles O7: the count and the rate by the byte, the channel by the word. -/
theorem requestByteFields : Obligations.RequestByteFields := by
  unfold Obligations.RequestByteFields
  intro ch slow r
  obtain ⟨hcount, hrate⟩ := blinkCount_requestByte slow r
  exact ⟨requestByte_eq_breqWord ch slow r, hcount, hrate, breqWord_channel ch slow r⟩

end Sys2Proof.Machine

namespace Sys2Proof

section Codes

variable (ch : Channel) (k : Pick) (sel : BitVec 2)

theorem OutLine.id_ind : (OutLine.ind ch).id.toNat = ch.index.toNat := by
  cases ch <;> rfl

theorem OutLine.id_selLed : (OutLine.selLed k).id.toNat = 3 + k.code.toNat := by
  cases k <;> rfl

theorem OutLine.id_relayLights : OutLine.relayLights.id.toNat = 7 := rfl

theorem OutLine.id_relayAcc : (OutLine.relayAcc k).id.toNat = 7 + k.code.toNat := by
  cases k <;> rfl

theorem BeepCause.code_accSelect : (BeepCause.accSelect sel).code.toNat = 6 + sel.toNat := by
  revert sel; decide

end Codes

/-- The line of an id, where one has it: what makes the ids distinct (R79). -/
def OutLine.ofId (n : BitVec 4) : Option OutLine :=
  if n.toNat < 4 then some (.ind (Channel.ofIndex (n.setWidth 2)))
  else if n = 7 then some .relayLights
  else if n.toNat < 7 then (Pick.ofSel ((n - 3).setWidth 2)).map .selLed
  else (Pick.ofSel ((n - 7).setWidth 2)).map .relayAcc

theorem OutLine.ofId_id (line : OutLine) : OutLine.ofId line.id = some line := by
  cases line with
  | ind ch => cases ch <;> decide
  | selLed k | relayAcc k => cases k <;> decide
  | relayLights => decide

/-- The cause of a code, where one has it: what makes the codes distinct (R80). -/
def BeepCause.ofCode (n : BitVec 4) : Option BeepCause :=
  if n = 0 then some .lightsOff
  else if n = 1 then some .lightsOn
  else if n = 2 then some .valet
  else if n = 3 then some .doorsRise
  else if n = 4 then some .doorsFall
  else if n = 5 then some .accCancel
  else if n = 10 then some .accCommit
  else some (.accSelect ((n - 6).setWidth 2))

theorem BeepCause.ofCode_code (cause : BeepCause) : BeepCause.ofCode cause.code = some cause := by
  cases cause with
  | accSelect sel => revert sel; decide
  | lightsOff | lightsOn | valet | doorsRise | doorsFall | accCancel | accCommit => decide

/-- The reserved ids 11 to 15 have no line (R85). -/
theorem OutLine.id_le_ten (line : OutLine) : line.id.toNat ≤ 10 := by
  cases line with
  | ind ch => cases ch <;> decide
  | selLed k | relayAcc k => cases k <;> decide
  | relayLights => decide

/-- The reserved codes 11 to 15 have no cause (R85). -/
theorem BeepCause.code_le_ten (cause : BeepCause) : cause.code.toNat ≤ 10 := by
  cases cause with
  | accSelect sel => rw [BeepCause.code_accSelect]; omega
  | lightsOff | lightsOn | valet | doorsRise | doorsFall | accCancel | accCommit => decide

/-- Settles O8: distinctness by the inverses, which give a line and a cause back from their codes. -/
theorem lineAndCauseCodes : Obligations.LineAndCauseCodes := by
  unfold Obligations.LineAndCauseCodes
  refine ⟨OutLine.id_ind, OutLine.id_selLed, OutLine.id_relayLights, OutLine.id_relayAcc, rfl, rfl, rfl, rfl, rfl, rfl,
    BeepCause.code_accSelect, rfl, fun a b h => ?lines, fun a b h => ?causes, OutLine.id_le_ten, BeepCause.code_le_ten⟩
  case lines => exact Option.some.inj (by rw [← OutLine.ofId_id a, h, OutLine.ofId_id])
  case causes => exact Option.some.inj (by rw [← BeepCause.ofCode_code a, h, BeepCause.ofCode_code])

/-! ### Configuration (spec/00_scope.md R8, spec/30_encoding.md R80) -/

theorem Params.wellFormed_iff (p : Params) : p.wellFormed = true ↔ p.paceLimit + 2 ≤ 2 ^ p.paceBits :=
  decide_eq_true_iff

/-- Parameters are refused exactly where they are not well-formed. -/
theorem Params.accept_eq_none (p : Params) : p.accept = none ↔ ¬ p.wellFormed = true := by
  by_cases h : p.wellFormed = true <;> simp [Params.accept, h]

/-- What is accepted keeps its parameters. -/
theorem Params.toParams_of_accept {p : Params} {c : Config} (h : p.accept = some c) : c.toParams = p := by
  rw [Params.accept] at h
  split at h
  · cases h; rfl
  · cases h

/-- No width that meets the condition of R8 is below the least one. -/
theorem Config.leastPaceBits_le {limit bits : Nat} (h : limit + 2 ≤ 2 ^ bits) : Config.leastPaceBits limit ≤ bits :=
  (Nat.log2_lt (Nat.succ_ne_zero limit)).mpr h

/-- Settles O9: every width that fits is the least one and a surplus. -/
theorem hardwarePaceFits : Obligations.HardwarePaceFits := by
  unfold Obligations.HardwarePaceFits
  refine ⟨fun p => ?refused, fun p c => Params.toParams_of_accept, Config.hardware.pace_fits,
    fun limit bits h => ?width⟩
  case refused => rw [Params.accept_eq_none, Params.wellFormed_iff]
  case width => exact ⟨bits - Config.leastPaceBits limit, (Nat.add_sub_of_le (Config.leastPaceBits_le h)).symm⟩

theorem Config.selectSlot_injective : ∀ a b : BitVec 2, Config.selectSlot a = Config.selectSlot b → a = b := by
  decide

/-- Settles O10: the named patterns by definition, the selections since their slots differ and the open arrangement is a
permutation. -/
theorem beepMapConstraints : Obligations.BeepMapConstraints := by
  unfold Obligations.BeepMapConstraints
  exact ⟨rfl, rfl, rfl, rfl, fun a b h => Config.selectSlot_injective a b (Config.selectArrangement.injective h)⟩

end Sys2Proof

namespace Sys2Proof.Machine

open Sys2Proof.Safety

/-! ### The remaining operations, unfolded once -/

section Exec

variable (ch : Channel) (n : Nat) (raw : RawIn) (s : State)

theorem exec_tick : exec (.tick raw) s = s.lift (tickAt Config.hardware raw s.toPanel) := rfl

theorem exec_bootMain : exec (.bootMain raw) s = .next (s.boot raw) := rfl

theorem exec_bootDemo : exec (.bootDemo raw) s = .next (s.boot raw) := rfl

theorem exec_setFastBlink :
    exec (.setFastBlink ch n) s = .next (s.withPanel (s.toPanel.requestBlink Config.hardware ch false n)) := rfl

theorem exec_setSlowBlink :
    exec (.setSlowBlink ch n) s = .next (s.withPanel (s.toPanel.requestBlink Config.hardware ch true n)) := rfl

theorem exec_accCommit : exec .accCommit s = .next (s.withPanel (commitAction Config.hardware s.toPanel)) := rfl

theorem exec_valetPulse : exec .valetPulse s = .next (s.withPanel (valetAction Config.hardware s.toPanel)) := rfl

theorem exec_doorsFall : exec .doorsFall s = .next (s.withPanel (doorsFallAction Config.hardware s.toPanel)) := rfl

theorem exec_paceAdvance : exec .paceAdvance s = .next (s.withPanel (advancePace s.toPanel)) := rfl

end Exec

/-! ### Boot (spec/44_tick.md R202, R203, R206) -/

/-- Settles O12: a main boot is the reset state. -/
theorem bootMainResets : Obligations.BootMainResets := by
  unfold Obligations.BootMainResets
  intro raw s h
  rw [exec_bootMain, boot_main h]; rfl

/-- Settles O13: a demo boot is the reset state in DEMO mode with the mark set. -/
theorem bootDemoRefuses : Obligations.BootDemoRefuses := by
  unfold Obligations.BootDemoRefuses
  intro raw s h
  rw [exec_bootDemo, boot_demo h]

/-- Ticks read and write the panel alone: from two states of one panel they emit the same records and leave the same
panel. -/
theorem observeTicks_of_toPanel_eq (ws : List RawIn) {s s' : State} (h : s.toPanel = s'.toPanel) :
    (observeTicks ws s).1 = (observeTicks ws s').1 ∧
      visible (observeTicks ws s).2 = visible (observeTicks ws s').2 := by
  induction ws generalizing s s' with
  | nil => exact ⟨rfl, congrArg Host.Outcome.next h⟩
  | cons w ws ih =>
    simp only [observeTicks, exec_tick, ← h]
    cases tickAt Config.hardware w s.toPanel with
    | next p =>
      obtain ⟨hrecords, hend⟩ := ih (s := s.withPanel p) (s' := s'.withPanel p) rfl
      simp only [State.lift]
      cases p.refused with
      | none => exact ⟨congrArg (p.toTickRecord :: ·) hrecords, hend⟩
      | some why => exact ⟨rfl, rfl⟩
    | fault r => exact ⟨rfl, rfl⟩
    | refused r => exact ⟨rfl, rfl⟩

/-- Settles O14: a boot leaves the same panel whatever the state before it. -/
theorem nothingSurvivesBoot : Obligations.NothingSurvivesBoot := by
  unfold Obligations.NothingSurvivesBoot
  exact fun s s' sample ws => observeTicks_of_toPanel_eq ws rfl

/-! ### Step (R34, R84, R85, R206) -/

section Step

variable {s t : State} {r : Request} {i : Instr}

theorem haltedBy_of_not_refused (h : s.refused = none) : haltedBy s r = none := by
  rw [haltedBy, h, ite_self]

/-- The boot test of a decoded operation, as the statements write it. -/
theorem isBoot_op : (Decoded.op i).isBoot = true ↔ isBoot i := by
  cases i <;> simp [Decoded.isBoot, isBoot]

theorem haltedBy_of_isBoot (hd : decode r.format r.word = .op i) (h : isBoot i) : haltedBy s r = none := by
  rw [haltedBy, hd, if_pos (isBoot_op.mpr h)]

/-- A marked state halts every request but a boot. -/
theorem isBoot_of_haltedBy {why : RefuseReason} (hr : s.refused = some why) (h : haltedBy s r = none) :
    (decode r.format r.word).isBoot = true := by
  rw [haltedBy, hr] at h
  by_contra hb
  rw [if_neg hb] at h
  cases h

/-- A step that is not halted and fetches an operation performs it. -/
theorem step_of_op (h : haltedBy (fetch s).2 (fetch s).1 = none)
    (hd : decode (fetch s).1.format (fetch s).1.word = .op i) : step s = exec i (fetch s).2 := by
  simp only [step, h, hd]

/-- A step that is not halted and fetches a word that selects nothing performs nothing (R84). -/
theorem step_of_nothing (h : haltedBy (fetch s).2 (fetch s).1 = none)
    (hd : decode (fetch s).1.format (fetch s).1.word = .nothing) : step s = .next (fetch s).2 := by
  simp only [step, h, hd]

/-- A step that is not halted and fetches a word its format rejects stops (R85). -/
theorem step_of_rejected {why : RejectReason} (h : haltedBy (fetch s).2 (fetch s).1 = none)
    (hd : decode (fetch s).1.format (fetch s).1.word = .rejected why) : step s = .refused (.undecodable why) := by
  simp only [step, h, hd]

/-- A fetch takes from the environment's side of the ports only. -/
@[simp] theorem fetch_toPanel (s : State) : (fetch s).2.toPanel = s.toPanel := by
  rw [fetch]; split <;> rfl

/-- A boot is its own request: the word it was decoded from is its sample's. -/
theorem request_of_decode_boot (hd : decode r.format r.word = .op i) (hb : isBoot i) :
    ∃ raw, r = bootRequest raw ∧ exec i = fun s => .next (s.boot raw) := by
  obtain ⟨henc, -⟩ := encodeAfterDecode _ _ _ hd
  cases i with
  | bootMain raw | bootDemo raw => exact ⟨raw, henc.symm, funext fun s => rfl⟩
  | _ => exact hb.elim

end Step

/-- Settles O15: the head is fetched, nothing halts it, and it decodes to the operation. -/
theorem stepRunsDecoded : Obligations.StepRunsDecoded := by
  unfold Obligations.StepRunsDecoded
  intro s r rest i hq hd hrun
  have hf := fetch_cons hq
  rw [step_of_op (i := i) (by rw [hf]; exact hrun.elim haltedBy_of_not_refused (haltedBy_of_isBoot hd))
    (by rw [hf]; exact hd), hf]

/-- The operation that the environment's free choice encodes (R206; log 5). -/
theorem decode_envRequest (n : Nat) :
    decode (envRequest n).format (envRequest n).word =
      .op (if (Config.envChoice n).1 then
          if (Config.envChoice n).2.getLsbD 1 then .bootMain (Config.envChoice n).2
          else .bootDemo (Config.envChoice n).2
        else .tick (Config.envChoice n).2) := by
  rw [envRequest]
  cases (Config.envChoice n).1 with
  | true => exact decode_bootRequest (Config.envChoice n).2
  | false => exact decode_tickRequest (Config.envChoice n).2

/-- Settles O16: the free choice decodes to a tick or to the boot its valet bit selects. -/
theorem stepOnEmptyQueue : Obligations.StepOnEmptyQueue := by
  unfold Obligations.StepOnEmptyQueue
  intro s hq hr
  have hd := decode_envRequest s.envCount
  refine ⟨_, hd, rfl, ?port, (encodeAfterDecode _ _ _ hd).2, ?step⟩
  case port =>
    cases (Config.envChoice s.envCount).1 with
    | true => cases (Config.envChoice s.envCount).2.getLsbD 1 <;> exact trivial
    | false => exact trivial
  case step =>
    have hf := fetch_nil hq
    rw [step_of_op (haltedBy_of_not_refused (by rw [hf]; exact hr)) (by rw [hf]; exact hd), hf]

/-- Settles O17: a word that is no operation is fetched and performs nothing, or stops the model. -/
theorem stepWithoutOperation : Obligations.StepWithoutOperation := by
  unfold Obligations.StepWithoutOperation
  intro s r rest hq hr
  have hf := fetch_cons hq
  have hhalt : haltedBy (fetch s).2 (fetch s).1 = none := haltedBy_of_not_refused (by rw [hf]; exact hr)
  exact ⟨fun hd => by rw [step_of_nothing hhalt (by rw [hf]; exact hd), hf],
    fun why hd => step_of_rejected hhalt (by rw [hf]; exact hd)⟩

end Sys2Proof.Machine

namespace Sys2Proof.Machine

open Sys2Proof.Safety

/-! ### The remaining operations alone: what each writes -/

section Actions

variable {w : Nat} (c : Config) (s : Panel w)

/-- `VALET_PULSE`: everything it writes (R152). -/
theorem valetAction_eq :
    valetAction c s =
      { s with
        oldHeld := s.oldHeld.set .valet true
        blink := s.blink.set .valet (requestByte c true c.valetSlow)
        beeps := s.beeps ++ [.valet] } := rfl

/-- `DOORS_FALL`: everything it writes (R154). -/
theorem doorsFallAction_eq :
    doorsFallAction c s =
      { s with
        oldHeld := s.oldHeld.set .doors false
        blink := s.blink.set .doors (requestByte c true c.doorsFallSlow)
        beeps := s.beeps ++ [.doorsFall] } := rfl

/-- The 10 slow repeats of `VALET_PULSE` as a blink byte. -/
theorem requestByte_valetSlow : requestByte Config.hardware true Config.hardware.valetSlow = 0x94 :=
  (requestByte_ofNat (n := 10) (by omega)).2

/-- The 3 slow repeats of `DOORS_FALL` as a blink byte. -/
theorem requestByte_doorsFallSlow : requestByte Config.hardware true Config.hardware.doorsFallSlow = 0x86 :=
  (requestByte_ofNat (n := 3) (by omega)).2

/-- What a commit writes (R125). -/
theorem commitOutputs_eq (k : Pick) :
    commitOutputs k s =
      { s with
        cphase := phaseJust
        out := ((s.emit (.selLed k) true).emit (.relayAcc k) true).out
        writes := s.writes ++ [⟨.selLed k, true⟩, ⟨.relayAcc k, true⟩]
        beeps := s.beeps ++ [.accCommit] } := by
  simp only [commitOutputs, Panel.emit, Panel.setCphase, Panel.beep, List.append_assoc]; rfl

theorem commitOutputs_cphase (k : Pick) : (commitOutputs k s).cphase = phaseJust := rfl

theorem commitOutputs_sel (k : Pick) : (commitOutputs k s).sel = s.sel := rfl

/-- The levels a commit leaves are those of its two writes. -/
theorem commitOutputs_out (k : Pick) :
    (commitOutputs k s).out = ((s.emit (.selLed k) true).emit (.relayAcc k) true).out := rfl

/-- A commit puts the selected LED and relay on. -/
theorem commitOutputs_on (k : Pick) :
    (commitOutputs k s).out.get (.selLed k) = true ∧ (commitOutputs k s).out.get (.relayAcc k) = true := by
  rw [commitOutputs_out, emit_get_self, emit_get_of_ne _ _ _ OutLine.noConfusion, emit_get_self]
  exact ⟨rfl, rfl⟩

/-- A commit writes no line but the selected LED and relay. -/
theorem commitOutputs_line {k : Pick} {line : OutLine} (hled : line ≠ .selLed k) (hrelay : line ≠ .relayAcc k) :
    (commitOutputs k s).out.get line = s.out.get line := by
  rw [commitOutputs_out, emit_get_of_ne _ _ _ hrelay, emit_get_of_ne _ _ _ hled]

variable {c s}

/-- `ACC_COMMIT` where its condition holds (R125). -/
theorem commitAction_of_due {k : Pick} (hp : s.cphase = phaseWait) (hk : s.sel = k.code)
    (he : c.commitLevel < s.elapsed) : commitAction c s = commitOutputs k s := by
  rw [commitAction, Pick.ofSel_eq_some.mpr hk.symm]
  exact if_pos ⟨hp, he⟩

/-- `ACC_COMMIT` where its condition fails (R125). -/
theorem commitAction_of_not_due (h : s.cphase ≠ phaseWait ∨ s.sel = 0 ∨ ¬ c.commitLevel < s.elapsed) :
    commitAction c s = s := by
  rw [commitAction]
  cases hk : Pick.ofSel s.sel with
  | none => rfl
  | some k =>
    have hsel : s.sel ≠ 0 := Pick.ofSel_eq_some.mp hk ▸ k.code_ne_zero
    exact if_neg fun ⟨hp, he⟩ => h.elim (· hp) fun h => h.elim hsel (· he)

/-- `ACC_COMMIT` commits a pick or has no effect. -/
theorem commitAction_cases (c : Config) (s : Panel w) :
    (∃ k : Pick, s.cphase = phaseWait ∧ s.sel = k.code ∧ c.commitLevel < s.elapsed ∧
      commitAction c s = commitOutputs k s) ∨
    (s.cphase ≠ phaseWait ∨ s.sel = 0 ∨ ¬ c.commitLevel < s.elapsed) ∧ commitAction c s = s := by
  by_cases h : s.cphase ≠ phaseWait ∨ s.sel = 0 ∨ ¬ c.commitLevel < s.elapsed
  · exact .inr ⟨h, commitAction_of_not_due h⟩
  · push Not at h
    obtain ⟨hp, hsel, he⟩ := h
    cases hk : Pick.ofSel s.sel with
    | none => exact absurd (Pick.ofSel_eq_none.mp hk) hsel
    | some k =>
      have hk := (Pick.ofSel_eq_some.mp hk).symm
      exact .inl ⟨k, hp, hk, he, commitAction_of_due hp hk he⟩

end Actions

/-- Settles O32: every field by `valetAction_eq`. -/
theorem valetPulseResult : Obligations.ValetPulseResult := by
  unfold Obligations.ValetPulseResult
  intro s
  rw [exec_valetPulse, valetAction_eq, requestByte_valetSlow]
  exact ⟨_, rfl, writesOnly_set s.oldHeld .valet true, writesOnly_set s.blink .valet 0x94, rfl, rfl⟩

/-- Settles O34: every field by `doorsFallAction_eq`. -/
theorem doorsFallResult : Obligations.DoorsFallResult := by
  unfold Obligations.DoorsFallResult
  intro s
  rw [exec_doorsFall, doorsFallAction_eq, requestByte_doorsFallSlow]
  exact ⟨_, rfl, writesOnly_set s.oldHeld .doors false, writesOnly_set s.blink .doors 0x86, rfl, rfl⟩

/-- Settles O39, by the two cases of `ACC_COMMIT`'s condition. -/
theorem accCommitResult : Obligations.AccCommitResult := by
  unfold Obligations.AccCommitResult
  refine ⟨fun s k hp hk he => ?due, fun s h => ?notDue⟩
  case due =>
    obtain ⟨hled, hrelay⟩ := commitOutputs_on s.toPanel k
    rw [exec_accCommit, commitAction_of_due hp hk ((commitLevel_lt _).mpr he)]
    refine ⟨_, rfl, ?_, hled, hrelay, fun _ => commitOutputs_line s.toPanel, ?_, ?_, ?_⟩ <;> rw [commitOutputs_eq]; rfl
  case notDue =>
    rw [exec_accCommit, commitAction_of_not_due (h.imp_right (Or.imp_right fun he => ?_))]
    rw [commitLevel_lt]; omega

/-! ### The blink requests alone (R170, R171, R85) -/

section Requests

variable {w : Nat} (s : Panel w) (c : Config) (ch : Channel) (slow : Bool) {n : Nat}

theorem requestBlink_of_le (h : n ≤ 63) :
    s.requestBlink c ch slow n = s.setBlink ch (requestByte c slow (BitVec.ofNat 6 n)) :=
  if_neg (Nat.not_lt.mpr h)

theorem requestBlink_of_lt (h : 63 < n) : s.requestBlink c ch slow n = s.refuse .blinkRepeatsRange :=
  if_pos h

end Requests

/-- Settles O42, by the two cases of the range test. -/
theorem setFastBlinkResult : Obligations.SetFastBlinkResult := by
  unfold Obligations.SetFastBlinkResult
  intro ch n s
  rw [exec_setFastBlink]
  constructor
  · intro h
    rw [requestBlink_of_le _ _ _ _ h, (requestByte_ofNat h).1]
    exact ⟨_, rfl, writesOnly_set s.blink ch _, rfl⟩
  · intro h
    rw [requestBlink_of_lt _ _ _ _ h]; rfl

/-- Settles O43, by the two cases of the range test. -/
theorem setSlowBlinkResult : Obligations.SetSlowBlinkResult := by
  unfold Obligations.SetSlowBlinkResult
  intro ch n s
  rw [exec_setSlowBlink]
  constructor
  · intro h
    rw [requestBlink_of_le _ _ _ _ h, (requestByte_ofNat h).2]
    exact ⟨_, rfl, writesOnly_set s.blink ch _, rfl⟩
  · intro h
    rw [requestBlink_of_lt _ _ _ _ h]; rfl

/-- Settles O44: the register by the operation's meaning, the bound by R8's condition. -/
theorem paceAdvanceResult : Obligations.PaceAdvanceResult := by
  unfold Obligations.PaceAdvanceResult
  exact ⟨exec_paceAdvance, fun c pace h => advancePace_toNat (s := (Panel.reset c.paceBits).setPace pace) h⟩

/-! ### The fields and lines each operation may write (spec/10_state.md sections 2 to 7) -/

/-- `t` is `s` but for the fields the spec lets the operation write. The port operations are not limited here: a boot
writes every field, and a tick those of the operations its phases select. -/
def MayWrite : Instr → State → State → Prop
  | .debPress _, s, t | .debRelease _, s, t => t = { s with cnt := t.cnt, held := t.held, oldHeld := t.oldHeld }
  | .setFastBlink _ _, s, t | .setSlowBlink _ _, s, t => t = { s with blink := t.blink, refused := t.refused }
  | .lightsOn, s, t | .lightsOff, s, t =>
    t = { s with
      oldHeld := t.oldHeld, lightsOn := t.lightsOn, blink := t.blink, out := t.out, writes := t.writes,
      beeps := t.beeps }
  | .valetPulse, s, t | .doorsRise, s, t | .doorsFall, s, t =>
    t = { s with oldHeld := t.oldHeld, blink := t.blink, beeps := t.beeps }
  | .accSelect, s, t =>
    t = { s with
      oldHeld := t.oldHeld, sel := t.sel, elapsed := t.elapsed, out := t.out, writes := t.writes, beeps := t.beeps }
  | .accCancel, s, t =>
    t = { s with
      oldHeld := t.oldHeld, sel := t.sel, cphase := t.cphase, out := t.out, writes := t.writes, beeps := t.beeps }
  | .accEdgeLocked, s, t => t = { s with oldHeld := t.oldHeld }
  | .accRearm, s, t => t = { s with cphase := t.cphase }
  | .accCommit, s, t => t = { s with cphase := t.cphase, out := t.out, writes := t.writes, beeps := t.beeps }
  | .paceAdvance, s, t => t = { s with pace := t.pace }
  | .paceRollover, s, t =>
    t = { s with
      pace := t.pace, parity := t.parity, elapsed := t.elapsed, blink := t.blink, out := t.out, writes := t.writes }
  | .blinkFastStep _ _, s, t | .blinkSlowStep _, s, t =>
    t = { s with blink := t.blink, out := t.out, writes := t.writes }
  | .blinkIdle _ _ _, s, t | .blinkSlowSkip _, s, t => t = s
  | .tick _, _, _ | .bootMain _, _, _ | .bootDemo _, _, _ => True

/-- A blink request writes the byte or the mark. -/
theorem requestBlink_frame {w : Nat} (s : Panel w) (c : Config) (ch : Channel) (slow : Bool) (n : Nat) :
    s.requestBlink c ch slow n =
      { s with blink := (s.requestBlink c ch slow n).blink, refused := (s.requestBlink c ch slow n).refused } := by
  obtain ⟨-, h⟩ | ⟨-, h⟩ := requestBlink_cases s c ch slow n <;> rw [h] <;> rfl

/-- Every operation writes only its own fields. -/
theorem exec_mayWrite {i : Instr} {s t : State} (h : exec i s = .next t) : MayWrite i s t := by
  cases i with
  | tick _ | bootMain _ | bootDemo _ => trivial
  | debPress ch =>
    cases (exec_debPress ch s).symm.trans h
    exact withPanel_debounceChannel_frame ch s true
  | debRelease ch =>
    cases (exec_debRelease ch s).symm.trans h
    exact withPanel_debounceChannel_frame ch s false
  | setFastBlink ch n | setSlowBlink ch n =>
    cases h
    exact congrArg s.withPanel (requestBlink_frame s.toPanel Config.hardware ch _ n)
  | accSelect =>
    cases h
    rw [MayWrite, selectAction_frame]
  | accCancel =>
    cases h
    rw [MayWrite, cancelAction_frame]
  | accRearm =>
    cases h
    rw [MayWrite, ← rearmPhase_eq, rearmPhase_frame]
  | accCommit =>
    cases h
    rw [MayWrite, ← commitPhase_eq, commitPhase_frame]
  | paceRollover =>
    cases h
    rw [MayWrite, rolloverPace_frame]
  | lightsOn | lightsOff | valetPulse | doorsRise | doorsFall | accEdgeLocked | paceAdvance | blinkIdle _ _ _
  | blinkFastStep _ _ | blinkSlowStep _ | blinkSlowSkip _ => cases h; rfl

/-- Settles O52: a field outside those the operation may write does not differ. -/
theorem registerWriters : Obligations.RegisterWriters := by
  unfold Obligations.RegisterWriters
  intro i s t h hint
  have hframe := exec_mayWrite h
  cases i with
  | tick _ | bootMain _ | bootDemo _ => exact absurd trivial hint
  | _ => rw [MayWrite] at hframe; rw [hframe]; simp

end Sys2Proof.Machine

namespace Sys2Proof.Machine

open Sys2Proof.Safety

/-! ### The output lines each operation may write (R32) -/

/-- The lines the spec lets the operation write. The port operations are not limited here. -/
def Drives : Instr → OutLine → Prop
  | .paceRollover, .ind _ => True
  | .blinkFastStep ch _, line | .blinkSlowStep ch, line => line = .ind ch
  | .accSelect, .selLed _ => True
  | .accCancel, .selLed _ | .accCancel, .relayAcc _ => True
  | .accCommit, .selLed _ | .accCommit, .relayAcc _ => True
  | .lightsOn, line | .lightsOff, line => line = .relayLights
  | .tick _, _ | .bootMain _, _ | .bootDemo _, _ => True
  | _, _ => False

/-- A channel step writes no line but its own indicator. -/
theorem forceStep_line {w : Nat} (s : Panel w) {ch : Channel} {line : OutLine} (h : line ≠ .ind ch) :
    (forceStep ch s).out.get line = s.out.get line :=
  emit_get_of_ne s (.ind ch) _ h

/-- A commit, or none, writes no line but a selection LED and its relay. -/
theorem commitAction_line {w : Nat} (c : Config) (s : Panel w) {line : OutLine}
    (h : ∀ k, line ≠ .selLed k ∧ line ≠ .relayAcc k) : (commitAction c s).out.get line = s.out.get line := by
  obtain ⟨k, -, -, -, hk⟩ | ⟨-, hk⟩ := commitAction_cases c s <;> rw [hk]
  exact commitOutputs_line s (h k).1 (h k).2

/-- Every operation writes only its own lines. -/
theorem exec_keeps_line {i : Instr} {s t : State} (h : exec i s = .next t) {line : OutLine}
    (hd : ¬ Drives i line) : t.out.get line = s.out.get line := by
  have hframe := exec_mayWrite h
  cases i with
  | tick _ | bootMain _ | bootDemo _ => exact absurd trivial hd
  | accSelect =>
    cases h
    exact selectAction_line _ _ fun k hk => hd (hk ▸ trivial)
  | accCancel =>
    cases h
    exact cancelAction_line _ _ fun k => ⟨fun hk => hd (hk ▸ trivial), fun hk => hd (hk ▸ trivial)⟩
  | accCommit =>
    cases h
    exact commitAction_line _ _ fun k => ⟨fun hk => hd (hk ▸ trivial), fun hk => hd (hk ▸ trivial)⟩
  | lightsOn | lightsOff =>
    cases h
    exact emit_get_of_ne s.toPanel .relayLights _ hd
  | blinkFastStep ch _ | blinkSlowStep ch =>
    cases h
    exact forceStep_line s.toPanel hd
  | paceRollover =>
    cases h
    exact rolloverPace_line _ _ fun ch hch => hd (hch ▸ trivial)
  | debPress _ | debRelease _ | setFastBlink _ _ | setSlowBlink _ _ | accEdgeLocked | accRearm | valetPulse | doorsRise
  | doorsFall | paceAdvance | blinkIdle _ _ _ | blinkSlowSkip _ =>
    rw [MayWrite] at hframe
    rw [hframe]

section Drivers

variable {i : Instr}

/-- The drivers of an indicator (R174, R177, R178). -/
theorem drives_ind {ch : Channel} (h : Drives i (.ind ch)) (hint : ¬ isExternal i) :
    i = .paceRollover ∨ (∃ q, i = .blinkFastStep ch q) ∨ i = .blinkSlowStep ch := by
  cases i with
  | tick _ | bootMain _ | bootDemo _ => exact absurd trivial hint
  | _ => simp_all [Drives]

/-- The drivers of a selection LED (R121, R122, R125). -/
theorem drives_selLed {k : Pick} (h : Drives i (.selLed k)) (hint : ¬ isExternal i) :
    i = .accSelect ∨ i = .accCancel ∨ i = .accCommit := by
  cases i with
  | tick _ | bootMain _ | bootDemo _ => exact absurd trivial hint
  | _ => simp_all [Drives]

/-- The drivers of the lights relay (R150, R151). -/
theorem drives_relayLights (h : Drives i .relayLights) (hint : ¬ isExternal i) : i = .lightsOn ∨ i = .lightsOff := by
  cases i with
  | tick _ | bootMain _ | bootDemo _ => exact absurd trivial hint
  | _ => simp_all [Drives]

/-- The drivers of an accessory relay (R122, R125). -/
theorem drives_relayAcc {k : Pick} (h : Drives i (.relayAcc k)) (hint : ¬ isExternal i) :
    i = .accCancel ∨ i = .accCommit := by
  cases i with
  | tick _ | bootMain _ | bootDemo _ => exact absurd trivial hint
  | _ => simp_all [Drives]

end Drivers

/-- Settles O53: a line that differs is one the operation drives. -/
theorem outputLineWriters : Obligations.OutputLineWriters := by
  unfold Obligations.OutputLineWriters
  intro i s t h hint
  have hdrives {line : OutLine} (hne : t.out.get line ≠ s.out.get line) : Drives i line :=
    by_contra fun hd => hne (exec_keeps_line h hd)
  refine ⟨fun ch hne => ?ind, fun k hne => ?led, fun hne => ?lights, fun k hne => ?relay⟩
  case ind => exact drives_ind (hdrives hne) hint
  case led => exact drives_selLed (hdrives hne) hint
  case lights => exact drives_relayLights (hdrives hne) hint
  case relay => exact drives_relayAcc (hdrives hne) hint

/-! ### The tick, where it answers a next state (R200, R221) -/

/-- The state a tick leaves where it runs its phases. -/
def tickState (raw : RawIn) (s : State) : State := s.withPanel (tickPhases Config.hardware raw s.toPanel)

section Tick

variable {raw : RawIn} {s t : State}

theorem exec_tick_of_ready (h : Ready s) : exec (.tick raw) s = .next (tickState raw s) := by
  obtain ⟨hrefused, hmode, hphase⟩ := h
  exact execTick_runs hrefused hmode hphase

/-- A tick with a next state marks a refusal and changes nothing else, or runs its phases. -/
theorem exec_tick_cases (h : exec (.tick raw) s = .next t) :
    s.refused = none ∧ ((∃ why, t = s.withPanel (s.toPanel.refuse why)) ∨ Ready s ∧ t = tickState raw s) := by
  obtain ⟨p, hp, rfl⟩ := execTick_cases h
  obtain ⟨hrefused, hp⟩ := tickAt_cases hp
  refine ⟨hrefused, ?_⟩
  obtain ⟨-, rfl⟩ | ⟨-, -, rfl⟩ | ⟨hmode, hphase, rfl⟩ := hp
  · exact .inl ⟨_, rfl⟩
  · exact .inl ⟨_, rfl⟩
  · have hmain : s.mode = .main := by
      cases hm : s.mode with
      | main => rfl
      | demo => exact absurd hm hmode
    exact .inr ⟨⟨hrefused, hmain, hphase⟩, rfl⟩

/-- A tick that runs its phases keeps the mode and the mark, and kicks the watchdog. -/
theorem tickState_keeps (raw : RawIn) (s : State) :
    (tickState raw s).mode = s.mode ∧ (tickState raw s).refused = s.refused ∧ (tickState raw s).wdtKick = true :=
  tickPhases_keeps Config.hardware raw s.toPanel

end Tick

/-- Settles O21: the phases write neither the mode nor the mark, and the last is the kick. -/
theorem tickKicksWatchdog : Obligations.TickKicksWatchdog := by
  unfold Obligations.TickKicksWatchdog
  intro raw s hready
  obtain ⟨hmode, hmark, hkick⟩ := tickState_keeps raw s
  obtain ⟨hrefused, -⟩ := id hready
  exact ⟨_, exec_tick_of_ready hready, hkick, hmode, hmark.trans hrefused, rfl, rfl⟩

/-! ### The mode and the mark (R34, R224) -/

/-- A blink request never clears the mark. -/
theorem requestBlink_keeps_mark {w : Nat} {s : Panel w} (c : Config) (ch : Channel) (slow : Bool) (n : Nat)
    (hr : s.refused ≠ none) : (s.requestBlink c ch slow n).refused ≠ none := by
  obtain ⟨-, h⟩ | ⟨-, h⟩ := requestBlink_cases s c ch slow n <;> rw [h]
  · exact hr
  · exact Option.some_ne_none _

section ModeAndMark

variable {i : Instr} {s t : State}

/-- An operation at the ports that is no boot is a tick. -/
theorem isExternal_cases (h : isExternal i) : (∃ raw, i = .tick raw) ∨ isBoot i := by
  cases i <;> simp_all [isExternal, isBoot]

/-- No operation but a boot changes the mode. -/
theorem exec_keeps_mode (h : exec i s = .next t) (hb : ¬ isBoot i) : t.mode = s.mode := by
  by_cases hi : isExternal i
  · obtain ⟨raw, rfl⟩ := (isExternal_cases hi).resolve_right hb
    obtain ⟨-, ⟨why, rfl⟩ | ⟨-, rfl⟩⟩ := exec_tick_cases h
    · rfl
    · exact (tickState_keeps raw s).1
  · obtain ⟨-, -, -, -, -, -, -, -, -, -, hmode, -⟩ := registerWriters i s t h hi
    exact hmode

/-- No operation but a boot clears the mark: a tick has no next state in a marked state, and a request only sets it. -/
theorem exec_keeps_mark (hr : s.refused ≠ none) (h : exec i s = .next t) (hb : ¬ isBoot i) : t.refused ≠ none := by
  by_cases hi : isExternal i
  · obtain ⟨raw, rfl⟩ := (isExternal_cases hi).resolve_right hb
    exact absurd (exec_tick_cases h).1 hr
  · obtain ⟨-, -, -, -, -, -, -, -, -, hwriters, -⟩ := registerWriters i s t h hi
    by_cases hsame : t.refused = s.refused
    · rwa [hsame]
    · obtain ⟨ch, n, rfl | rfl⟩ := hwriters hsame <;> cases h <;> exact requestBlink_keeps_mark _ ch _ n hr

end ModeAndMark

/-- Settles O19: a step performs one operation, and an operation that changes the mode is a boot. -/
theorem onlyBootChangesMode : Obligations.OnlyBootChangesMode := by
  unfold Obligations.OnlyBootChangesMode
  refine ⟨fun i s t => exec_keeps_mode, fun s t hstep hmode => ?_⟩
  have hfetch : (fetch s).2.mode = s.mode := by rw [fetch_toPanel]
  obtain ⟨-, ⟨i, hd, hexec⟩ | ⟨-, rfl⟩⟩ := step_cases hstep
  · have hboot : isBoot i := by_contra fun hb => hmode ((exec_keeps_mode hexec hb).trans hfetch)
    exact ⟨i, hboot, hd, hexec⟩
  · exact absurd hfetch hmode

/-- Settles O18: what a marked state does not halt is a boot, and a boot's word is that of its sample. -/
theorem refusedOnlyLeftByBoot : Obligations.RefusedOnlyLeftByBoot := by
  unfold Obligations.RefusedOnlyLeftByBoot
  refine ⟨fun s t why hr hstep => ?_, fun i s t => exec_keeps_mark⟩
  have hfetch : (fetch s).2.refused = some why := by rw [fetch_toPanel, hr]
  obtain ⟨hhalt, hcases⟩ := step_cases hstep
  have hboot := isBoot_of_haltedBy hfetch hhalt
  obtain ⟨i, hd, hexec⟩ | ⟨hd, -⟩ := hcases
  · rw [hd, isBoot_op] at hboot
    obtain ⟨raw, hreq, hi⟩ := request_of_decode_boot hd hboot
    rw [hi] at hexec
    exact ⟨raw, hreq, (Host.Outcome.next.inj hexec).symm⟩
  · rw [hd] at hboot; cases hboot

/-! ### The accessory phases of a tick (spec/41_accessory.md R120 to R125) -/

section AccessoryPhases

variable {w : Nat} {c : Config} {s : Panel w}

theorem rise_iff {ch : Channel} : rise s ch = true ↔ s.held.get ch = true ∧ s.oldHeld.get ch = false := by
  simp [rise]

theorem fall_iff {ch : Channel} : fall s ch = true ↔ s.held.get ch = false ∧ s.oldHeld.get ch = true := by
  simp [fall]

theorem selectAction_cphase (c : Config) (s : Panel w) : (selectAction c s).cphase = s.cphase := by
  rw [selectAction_frame]

theorem selectAction_sel (c : Config) (s : Panel w) : (selectAction c s).sel = s.sel + 1 := by
  rw [selectAction_frame]

theorem cancelAction_cphase (c : Config) (s : Panel w) : (cancelAction c s).cphase = phaseLock := by
  rw [cancelAction_frame]

theorem cancelAction_sel (c : Config) (s : Panel w) : (cancelAction c s).sel = 0 := by
  rw [cancelAction_frame]

/-- With an accessory edge the later accessory phases do nothing: after a selection no commit is due, and the button is
held, so LOCK stays. -/
theorem accessoryPhases_of_rise (hrise : rise s .accessory = true) : accessoryPhases c s = edgePhase c s := by
  obtain ⟨hheld, -⟩ := rise_iff.mp hrise
  have hrearm : rearmAction (edgePhase c s) = edgePhase c s :=
    rearmAction_of_not (.inr (by rw [(edgePhase_keeps c s).2.1, hheld]))
  rw [accessoryPhases, commitPhase_eq, rearmPhase_eq, hrearm]
  refine commitAction_of_not_due ?_
  rw [edgePhase_eq, if_pos hrise]
  split_ifs with hwait hjust hlock
  · exact .inr (.inr (by rw [selectAction_frame]; exact BitVec.not_lt_zero))
  · exact .inl (by rw [cancelAction_cphase]; decide)
  · exact .inl hwait
  · exact .inl hwait

/-- Without an accessory edge the accessory phases re-arm and then commit. -/
theorem accessoryPhases_of_not_rise (hrise : rise s .accessory = false) :
    accessoryPhases c s = commitAction c (rearmAction s) := by
  rw [accessoryPhases, commitPhase_eq, rearmPhase_eq, edgePhase_eq, if_neg (by simp [hrise])]

/-- What the accessory phases of a tick do: one operation on an edge, or a re-arm and a commit without one. -/
theorem accessoryPhases_cases (c : Config) {s : Panel w} (hp : s.cphase ≠ phaseReserved) :
    (rise s .accessory = true ∧
      (s.cphase = phaseWait ∧ accessoryPhases c s = selectAction c s ∨
        s.cphase = phaseJust ∧ accessoryPhases c s = cancelAction c s ∨
        s.cphase = phaseLock ∧ accessoryPhases c s = edgeLockedAction s)) ∨
    (rise s .accessory = false ∧ accessoryPhases c s = commitAction c (rearmAction s)) := by
  cases hrise : rise s .accessory with
  | false => exact .inr ⟨rfl, accessoryPhases_of_not_rise hrise⟩
  | true =>
    rw [accessoryPhases_of_rise hrise, edgePhase_eq, if_pos hrise]
    refine .inl ⟨rfl, ?_⟩
    obtain h | h | h | h := phase_cases s.cphase
    · exact .inl ⟨h, if_pos h⟩
    · exact .inr (.inl ⟨h, by rw [h]; rfl⟩)
    · exact .inr (.inr ⟨h, by rw [h]; rfl⟩)
    · exact absurd h hp

/-- A re-arm leads to WAIT or has no effect. -/
theorem rearmAction_cases (s : Panel w) :
    s.cphase = phaseLock ∧ s.held.get .accessory = false ∧ rearmAction s = s.setCphase phaseWait ∨
    (s.cphase ≠ phaseLock ∨ s.held.get .accessory = true) ∧ rearmAction s = s := by
  by_cases h : s.cphase = phaseLock ∧ s.held.get .accessory = false
  · exact .inl ⟨h.1, h.2, if_pos h⟩
  · have hor : s.cphase ≠ phaseLock ∨ s.held.get .accessory = true := by
      rwa [not_and_or, Bool.not_eq_false] at h
    exact .inr ⟨hor, rearmAction_of_not hor⟩

/-- No accessory phase writes the reserved phase (R76). -/
theorem accessoryPhases_phase_ne_reserved (hp : s.cphase ≠ phaseReserved) :
    (accessoryPhases c s).cphase ≠ phaseReserved := by
  have hrearm : (rearmAction s).cphase ≠ phaseReserved := by
    obtain ⟨-, -, h⟩ | ⟨-, h⟩ := rearmAction_cases s <;> rw [h]
    · simp [phaseWait, phaseReserved]
    · exact hp
  obtain ⟨-, ⟨-, h⟩ | ⟨-, h⟩ | ⟨-, h⟩⟩ | ⟨-, h⟩ := accessoryPhases_cases c hp <;> rw [h]
  · rwa [selectAction_cphase]
  · rw [cancelAction_cphase]; decide
  · exact hp
  · obtain ⟨k, -, -, -, hk⟩ | ⟨-, hk⟩ := commitAction_cases c (rearmAction s) <;> rw [hk]
    · rw [commitOutputs_cphase]; decide
    · exact hrearm

end AccessoryPhases

/-! ### The reserved phase (R76) -/

/-- The phase after a tick is that after its accessory phases. -/
theorem tickPhases_cphase (c : Config) (raw : RawIn) (s : Panel c.paceBits) :
    (tickPhases c raw s).cphase = (accessoryPhases c (togglePhases c (debouncePhase c raw s.beginTick))).cphase := by
  simp [tickPhases]

/-- The phases of a tick lead out of the reserved phase or stay out of it. -/
theorem tickPhases_phase_ne_reserved {c : Config} {raw : RawIn} {s : Panel c.paceBits} (h : s.cphase ≠ phaseReserved) :
    (tickPhases c raw s).cphase ≠ phaseReserved := by
  rw [tickPhases_cphase]
  exact accessoryPhases_phase_ne_reserved (by simpa [togglePhases] using h)

theorem ready_tickState {raw : RawIn} {s : State} (h : Ready s) : Ready (tickState raw s) := by
  obtain ⟨hrefused, hmode, hphase⟩ := h
  obtain ⟨hmode', hmark, -⟩ := tickState_keeps raw s
  exact ⟨hmark.trans hrefused, hmode'.trans hmode, tickPhases_phase_ne_reserved hphase⟩

/-- A boot starts in WAIT. -/
theorem boot_cphase (s : State) (raw : RawIn) : (s.boot raw).cphase = phaseWait := by
  cases h : raw.getLsbD 1 with
  | true => rw [boot_main h]; rfl
  | false => rw [boot_demo h]; rfl

/-- No operation enters the reserved phase. -/
theorem exec_phase_ne_reserved {i : Instr} {s t : State} (hp : s.cphase ≠ phaseReserved) (h : exec i s = .next t) :
    t.cphase ≠ phaseReserved := by
  have hwait : phaseWait ≠ phaseReserved := by decide
  have hframe := exec_mayWrite h
  cases i with
  | tick raw =>
    obtain ⟨-, ⟨why, rfl⟩ | ⟨hready, rfl⟩⟩ := exec_tick_cases h
    · exact hp
    · exact (ready_tickState hready).2.2
  | bootMain raw | bootDemo raw => cases h; rwa [boot_cphase]
  | accCancel =>
    cases h
    rw [State.withPanel, cancelAction_cphase]; decide
  | accRearm =>
    cases h
    obtain ⟨-, -, h⟩ | ⟨-, h⟩ := rearmAction_cases s.toPanel
    · rw [State.withPanel, h]; exact hwait
    · rwa [State.withPanel, h]
  | accCommit =>
    cases h
    obtain ⟨k, -, -, -, h⟩ | ⟨-, h⟩ := commitAction_cases Config.hardware s.toPanel
    · rw [State.withPanel, h, commitOutputs_cphase]; decide
    · rwa [State.withPanel, h]
  | _ => rw [MayWrite] at hframe; rwa [hframe]

/-- Settles O54: a step performs one operation or none. -/
theorem reservedPhaseNeverEntered : Obligations.ReservedPhaseNeverEntered := by
  unfold Obligations.ReservedPhaseNeverEntered
  intro s t hp hstep
  have hfetch : (fetch s).2.cphase ≠ phaseReserved := by rwa [fetch_toPanel]
  obtain ⟨-, ⟨i, -, hexec⟩ | ⟨-, rfl⟩⟩ := step_cases hstep
  · exact exec_phase_ne_reserved hfetch hexec
  · exact hfetch

end Sys2Proof.Machine

namespace Sys2Proof.Machine

open Sys2Proof.Safety

/-! ### A tick is its phases' operations in order (spec/44_tick.md R200) -/

section Perform

variable {i : Instr} {is : List Instr} {s t : State}

@[simp] theorem perform_nil : perform [] s = .next s := rfl

theorem perform_cons (h : exec i s = .next t) : perform (i :: is) s = perform is t := by
  simp only [perform, h]

theorem perform_one (h : exec i s = .next t) : perform [i] s = .next t := perform_cons h

end Perform

section PhasesPerformed

variable (s : State)

/-- One channel's debounce is the operation its input selects. -/
theorem exec_debounce (ch : Channel) (press : Bool) :
    exec (if press then .debPress ch else .debRelease ch) s =
      .next (s.withPanel (debounceChannel Config.hardware ch press s.toPanel)) := by
  cases press with
  | true => exact exec_debPress ch s
  | false => exact exec_debRelease ch s

/-- Valet is active-low: its input bit selects the release (R72). -/
theorem exec_debounce_valet (raw : RawIn) :
    exec (if raw.getLsbD 1 then .debRelease .valet else .debPress .valet) s =
      .next (s.withPanel (debounceChannel Config.hardware .valet (pressed raw .valet) s.toPanel)) := by
  rw [← exec_debounce, pressed]
  cases raw.getLsbD 1 <;> rfl

theorem perform_debouncePhase (raw : RawIn) :
    perform
      [if raw.getLsbD 0 then .debPress .lights else .debRelease .lights,
       if raw.getLsbD 1 then .debRelease .valet else .debPress .valet,
       if raw.getLsbD 2 then .debPress .doors else .debRelease .doors,
       if raw.getLsbD 3 then .debPress .accessory else .debRelease .accessory] s =
      .next (s.withPanel (debouncePhase Config.hardware raw s.toPanel)) := by
  rw [perform_cons (exec_debounce s .lights (raw.getLsbD 0)), perform_cons (exec_debounce_valet _ raw),
    perform_cons (exec_debounce _ .doors (raw.getLsbD 2)), perform_cons (exec_debounce _ .accessory (raw.getLsbD 3)),
    perform_nil, debouncePhase_eq]
  rfl

theorem perform_lightsPhase :
    perform (if rise s.toPanel .lights then [if s.lightsOn then .lightsOff else .lightsOn] else []) s =
      .next (s.withPanel (lightsPhase Config.hardware s.toPanel)) := by
  rw [lightsPhase_eq]
  cases rise s.toPanel .lights with
  | false => rfl
  | true =>
    cases s.lightsOn with
    | false => exact perform_one (exec_lightsOn s)
    | true => exact perform_one (exec_lightsOff s)

theorem perform_valetPhase :
    perform (if rise s.toPanel .valet then [.valetPulse] else []) s =
      .next (s.withPanel (valetPhase Config.hardware s.toPanel)) := by
  rw [valetPhase_eq]
  cases rise s.toPanel .valet with
  | false => rfl
  | true => exact perform_one (exec_valetPulse s)

theorem perform_doorsPhase :
    perform (if rise s.toPanel .doors then [.doorsRise] else if fall s.toPanel .doors then [.doorsFall] else []) s =
      .next (s.withPanel (doorsPhase Config.hardware s.toPanel)) := by
  rw [doorsPhase_eq]
  cases rise s.toPanel .doors with
  | true => exact perform_one (exec_doorsRise s)
  | false =>
    cases fall s.toPanel .doors with
    | false => rfl
    | true => exact perform_one (exec_doorsFall s)

theorem perform_edgePhase (hp : s.cphase ≠ phaseReserved) :
    perform
      (if rise s.toPanel .accessory then
        [if s.cphase = 0 then .accSelect else if s.cphase = 1 then .accCancel else .accEdgeLocked]
       else []) s =
      .next (s.withPanel (edgePhase Config.hardware s.toPanel)) := by
  rw [edgePhase_eq]
  cases rise s.toPanel .accessory with
  | false => rfl
  | true =>
    obtain h | h | h | h := phase_cases s.cphase
    · rw [h]; exact perform_one (exec_accSelect s)
    · rw [h]; exact perform_one (exec_accCancel s)
    · rw [h]; exact perform_one (exec_accEdgeLocked s)
    · exact absurd h hp

theorem perform_rearmPhase :
    perform (if s.held.get .accessory = false ∧ s.cphase = 2 then [.accRearm] else []) s =
      .next (s.withPanel (rearmPhase s.toPanel)) := by
  rw [rearmPhase_eq]
  split_ifs with h
  · exact perform_one (exec_accRearm s)
  · rw [rearmAction_of_not (by rwa [not_and_or, Bool.not_eq_false, or_comm] at h)]; rfl

theorem perform_commitPhase :
    perform (if s.cphase = 0 ∧ s.sel ≠ 0 ∧ 10 < s.elapsed.toNat then [.accCommit] else []) s =
      .next (s.withPanel (commitPhase Config.hardware s.toPanel)) := by
  rw [commitPhase_eq]
  split_ifs with h
  · exact perform_one (exec_accCommit s)
  · rw [commitAction_of_not_due (by rwa [← commitLevel_lt, not_and_or, not_and_or, not_not] at h)]; rfl

theorem perform_blinkPhase :
    perform [if Config.hardware.paceLimit < s.pace.toNat + 1 then .paceRollover else .paceAdvance] s =
      .next (s.withPanel (blinkPhase Config.hardware s.toPanel)) := by
  rw [blinkPhase_eq]
  split_ifs with h
  · exact perform_one (exec_paceRollover s)
  · exact perform_one (exec_paceAdvance s)

end PhasesPerformed

section Refusals

variable {c : Config} {raw : RawIn} {s : Panel c.paceBits}

theorem tickAt_of_marked {why : RefuseReason} (hr : s.refused = some why) :
    tickAt c raw s = .refused (.runRefused why) := by
  simp [tickAt, hr]

theorem tickAt_of_demo (hr : s.refused = none) (hm : s.mode = .demo) : tickAt c raw s = .next (s.refuse .demoMode) := by
  simp [tickAt, hr, hm]

theorem tickAt_of_reserved (hr : s.refused = none) (hm : s.mode = .main) (hp : s.cphase = phaseReserved) :
    tickAt c raw s = .next (s.refuse .reservedPhase) := by
  simp [tickAt, hr, hm, hp]

end Refusals

/-- Settles O20: the refusals by the tick's tests, and otherwise each phase by the operation its guard selects, on the
panel the phases before it left. -/
theorem tickFollowsPhases : Obligations.TickFollowsPhases := by
  unfold Obligations.TickFollowsPhases
  refine ⟨fun raw s why hr => congrArg s.lift (tickAt_of_marked hr),
    fun raw s hr hm => congrArg s.lift (tickAt_of_demo hr hm),
    fun raw s hr hm hp => congrArg s.lift (tickAt_of_reserved hr hm hp), fun raw s h => ?runs⟩
  have hphase := h.2.2
  rw [exec_tick_of_ready h, tickState, tickPhases, togglePhases, accessoryPhases]
  obtain ⟨p1, h1⟩ : ∃ p, p = debouncePhase Config.hardware raw s.toPanel.beginTick := ⟨_, rfl⟩
  obtain ⟨p2, h2⟩ : ∃ p, p = lightsPhase Config.hardware p1 := ⟨_, rfl⟩
  obtain ⟨p3, h3⟩ : ∃ p, p = valetPhase Config.hardware p2 := ⟨_, rfl⟩
  obtain ⟨p4, h4⟩ : ∃ p, p = doorsPhase Config.hardware p3 := ⟨_, rfl⟩
  obtain ⟨p5, h5⟩ : ∃ p, p = edgePhase Config.hardware p4 := ⟨_, rfl⟩
  obtain ⟨p6, h6⟩ : ∃ p, p = rearmPhase p5 := ⟨_, rfl⟩
  obtain ⟨p7, h7⟩ : ∃ p, p = commitPhase Config.hardware p6 := ⟨_, rfl⟩
  obtain ⟨p8, h8⟩ : ∃ p, p = blinkPhase Config.hardware p7 := ⟨_, rfl⟩
  have hreserved : p4.cphase ≠ phaseReserved := by
    rw [h4, h3, h2, h1]; simpa using hphase
  refine ⟨s.withPanel p1, s.withPanel p2, s.withPanel p3, s.withPanel p4, s.withPanel p5, s.withPanel p6,
    s.withPanel p7, s.withPanel p8, ?_, ?_, ?_, ?_, ?_, ?_, ?_, ?_, ?_⟩
  · rw [h1]; exact perform_debouncePhase (s.withPanel s.toPanel.beginTick) raw
  · rw [h2]; exact perform_lightsPhase (s.withPanel p1)
  · rw [h3]; exact perform_valetPhase (s.withPanel p2)
  · rw [h4]; exact perform_doorsPhase (s.withPanel p3)
  · rw [h5]; exact perform_edgePhase (s.withPanel p4) hreserved
  · rw [h6]; exact perform_rearmPhase (s.withPanel p5)
  · rw [h7]; exact perform_commitPhase (s.withPanel p6)
  · rw [h8]; exact perform_blinkPhase (s.withPanel p7)
  · rw [← h1, ← h2, ← h3, ← h4, ← h5, ← h6, ← h7, ← h8]; rfl

/-! ### The levels follow the write list (spec/30_encoding.md R81) -/

theorem levelAfter_append (ws vs : List OutWrite) (line : OutLine) (before : Bool) :
    levelAfter (ws ++ vs) line before = levelAfter vs line (levelAfter ws line before) :=
  List.foldl_append

/-- `t` has more writes than `s`, and its levels are those of `s` after them. -/
def LevelsTracked {w : Nat} (s t : Panel w) : Prop :=
  ∃ ws, t.writes = s.writes ++ ws ∧ ∀ line, t.out.get line = levelAfter ws line (s.out.get line)

namespace LevelsTracked

variable {w : Nat} {s t u : Panel w}

theorem of_same (hw : t.writes = s.writes) (ho : t.out = s.out) : LevelsTracked s t :=
  ⟨[], by rw [hw, List.append_nil], fun line => by rw [ho]; rfl⟩

theorem refl (s : Panel w) : LevelsTracked s s := of_same rfl rfl

theorem trans (h : LevelsTracked s t) (h' : LevelsTracked t u) : LevelsTracked s u := by
  obtain ⟨ws, hw, ho⟩ := h
  obtain ⟨vs, hw', ho'⟩ := h'
  exact ⟨ws ++ vs, by rw [hw', hw, List.append_assoc], fun line => by rw [ho', ho, levelAfter_append]⟩

theorem emit (s : Panel w) (line : OutLine) (level : Bool) : LevelsTracked s (s.emit line level) := by
  refine ⟨[⟨line, level⟩], rfl, fun other => ?_⟩
  rw [emit_out, OutLevels.get_set]
  simp only [levelAfter, List.foldl_cons, List.foldl_nil, eq_comm]

/-- Operations of a list in order. -/
theorem foldl {α : Type} {f : Panel w → α → Panel w} (h : ∀ t a, LevelsTracked t (f t a)) (l : List α) (s : Panel w) :
    LevelsTracked s (l.foldl f s) := by
  induction l generalizing s with
  | nil => exact refl s
  | cons a l ih => exact (h s a).trans (ih _)

/-- A choice between two. -/
theorem ite {p : Prop} [Decidable p] (ht : LevelsTracked s t) (hu : LevelsTracked s u) :
    LevelsTracked s (if p then t else u) := by
  split
  · exact ht
  · exact hu

end LevelsTracked

section Tracked

variable {w : Nat} (c : Config) (s : Panel w)

theorem levelsTracked_lightsPhase : LevelsTracked s (lightsPhase c s) := by
  rw [lightsPhase_eq]
  exact .ite (.ite (.trans (.of_same rfl rfl) (.emit _ _ _)) (.trans (.of_same rfl rfl) (.emit _ _ _))) (.refl s)

theorem levelsTracked_emitLeds (f : Pick → Bool) : LevelsTracked s (s.emitLeds c f) :=
  .foldl (fun _ _ => .emit _ _ _) c.picks s

theorem levelsTracked_releaseRelays : LevelsTracked s (s.releaseRelays c) :=
  .foldl (fun _ _ => .emit _ _ _) c.picks s

theorem levelsTracked_selectAction : LevelsTracked s (selectAction c s) :=
  .trans (.of_same rfl rfl)
    ((levelsTracked_emitLeds c ((s.setOldHeld .accessory true).setSel (s.sel + 1)) _).trans (.of_same rfl rfl))

theorem levelsTracked_cancelAction : LevelsTracked s (cancelAction c s) := by
  have hleds := levelsTracked_emitLeds c (s.setOldHeld .accessory true) fun _ => false
  have hrelays := levelsTracked_releaseRelays c
    ((((s.setOldHeld .accessory true).emitLeds c fun _ => false).beep .accCancel).setSel 0)
  exact .trans (.of_same rfl rfl) (hleds.trans (.trans (.of_same rfl rfl) (hrelays.trans (.of_same rfl rfl))))

theorem levelsTracked_edgePhase : LevelsTracked s (edgePhase c s) := by
  rw [edgePhase_eq]
  exact .ite (.ite (levelsTracked_selectAction c s)
    (.ite (levelsTracked_cancelAction c s) (.ite (.of_same rfl rfl) (.refl s)))) (.refl s)

theorem levelsTracked_commitPhase : LevelsTracked s (commitPhase c s) := by
  rw [commitPhase_eq]
  obtain ⟨k, -, -, -, h⟩ | ⟨-, h⟩ := commitAction_cases c s <;> rw [h]
  · exact .trans (.of_same rfl rfl) (.trans (.emit _ _ _) (.trans (.emit _ _ _) (.of_same rfl rfl)))
  · exact .refl s

theorem levelsTracked_channelStep (ch : Channel) : LevelsTracked s (channelStep c ch s) := by
  rw [channelStep_eq]
  exact .ite (.trans (.emit _ _ _) (.of_same rfl rfl)) (.refl s)

theorem levelsTracked_blinkPhase (s : Panel c.paceBits) : LevelsTracked s (blinkPhase c s) := by
  rw [blinkPhase_eq]
  exact .ite (.trans (.of_same rfl rfl) (.foldl (fun t ch => levelsTracked_channelStep c t ch) c.channels _))
    (.of_same rfl rfl)

/-- The writes of a tick account for its levels, phase by phase. -/
theorem levelsTracked_tickPhases (raw : RawIn) (s : Panel c.paceBits) :
    LevelsTracked s.beginTick (tickPhases c raw s) := by
  have hdebounce : LevelsTracked s.beginTick (debouncePhase c raw s.beginTick) := .of_same (by simp) (by simp)
  have hvalet (t : Panel c.paceBits) : LevelsTracked t (valetPhase c t) := .of_same (by simp) (by simp)
  have hdoors (t : Panel c.paceBits) : LevelsTracked t (doorsPhase c t) := .of_same (by simp) (by simp)
  have hrearm (t : Panel c.paceBits) : LevelsTracked t (rearmPhase t) := .of_same (by simp) (by simp)
  have htoggle := ((hdebounce.trans (levelsTracked_lightsPhase c _)).trans (hvalet _)).trans (hdoors _)
  have haccessory := ((htoggle.trans (levelsTracked_edgePhase c _)).trans (hrearm _)).trans
    (levelsTracked_commitPhase c _)
  exact (haccessory.trans (levelsTracked_blinkPhase c _)).trans (.of_same rfl rfl)

end Tracked

/-- Settles O22: a tick starts with an empty write list, and its phases account for the levels. -/
theorem levelsFollowWrites : Obligations.LevelsFollowWrites := by
  unfold Obligations.LevelsFollowWrites
  intro raw s t hready h line
  cases (exec_tick_of_ready hready).symm.trans h
  obtain ⟨ws, hwrites, hlevels⟩ := levelsTracked_tickPhases Config.hardware raw s.toPanel
  rw [beginTick_writes, List.nil_append] at hwrites
  rw [tickState, hwrites]
  exact hlevels line

/-! ### The beeps of a tick (spec/30_encoding.md R80, spec/70_reset_and_hazards.md section 3) -/

/-- `t` has at most one beep more than `s`, and that one is of the accessory machine or not, as said. -/
def BeepsOnce {w : Nat} (accessory : Bool) (s t : Panel w) : Prop :=
  t.beeps = s.beeps ∨ ∃ cause, isAccessoryBeep cause = accessory ∧ t.beeps = s.beeps ++ [cause]

namespace BeepsOnce

variable {w : Nat} {a : Bool} {s t : Panel w}

theorem length_le (h : BeepsOnce a s t) : t.beeps.length ≤ s.beeps.length + 1 := by
  obtain h | ⟨cause, -, h⟩ := h <;> simp [h]

theorem accessory_length_le (h : BeepsOnce a s t) :
    (t.beeps.filter isAccessoryBeep).length ≤ (s.beeps.filter isAccessoryBeep).length + a.toNat := by
  obtain h | ⟨cause, rfl, h⟩ := h <;> rw [h]
  · exact Nat.le_add_right _ _
  · rw [List.filter_append, List.length_append]
    cases hc : isAccessoryBeep cause <;> simp [hc]

end BeepsOnce

section Beeps

variable {w : Nat} (c : Config) (s : Panel w)

theorem beepsOnce_lightsPhase : BeepsOnce false s (lightsPhase c s) := by
  rw [lightsPhase_eq]
  split_ifs
  · exact .inr ⟨.lightsOff, rfl, rfl⟩
  · exact .inr ⟨.lightsOn, rfl, rfl⟩
  · exact .inl rfl

theorem beepsOnce_valetPhase : BeepsOnce false s (valetPhase c s) := by
  rw [valetPhase_eq]
  split_ifs
  · exact .inr ⟨.valet, rfl, rfl⟩
  · exact .inl rfl

theorem beepsOnce_doorsPhase : BeepsOnce false s (doorsPhase c s) := by
  rw [doorsPhase_eq]
  split_ifs
  · exact .inr ⟨.doorsRise, rfl, rfl⟩
  · exact .inr ⟨.doorsFall, rfl, rfl⟩
  · exact .inl rfl

/-- The accessory machine beeps once at most: on an edge only the edge's operation acts, and without one only the
commit beeps. -/
theorem beepsOnce_accessoryPhases {s : Panel w} (hp : s.cphase ≠ phaseReserved) :
    BeepsOnce true s (accessoryPhases c s) := by
  obtain ⟨-, ⟨-, h⟩ | ⟨-, h⟩ | ⟨-, h⟩⟩ | ⟨-, h⟩ := accessoryPhases_cases c hp <;> rw [h]
  · exact .inr ⟨.accSelect (s.sel + 1), rfl, by rw [selectAction_frame]⟩
  · exact .inr ⟨.accCancel, rfl, by rw [cancelAction_frame]⟩
  · exact .inl rfl
  · have hrearm : (rearmAction s).beeps = s.beeps := by rw [← rearmPhase_eq]; simp
    obtain ⟨k, -, -, -, hk⟩ | ⟨-, hk⟩ := commitAction_cases c (rearmAction s) <;> rw [hk]
    · exact .inr ⟨.accCommit, rfl, by rw [commitOutputs_eq, hrearm]⟩
    · exact .inl hrearm

/-- The beeps after a tick are those after its accessory phases. -/
theorem tickPhases_beeps (raw : RawIn) (s : Panel c.paceBits) :
    (tickPhases c raw s).beeps = (accessoryPhases c (togglePhases c (debouncePhase c raw s.beginTick))).beeps := by
  simp [tickPhases]

end Beeps

/-- Settles O23: one beep at most for each of lights, valet, doors and the accessory machine. -/
theorem atMostFourBeeps : Obligations.AtMostFourBeeps := by
  unfold Obligations.AtMostFourBeeps
  intro raw s t hready h
  cases (exec_tick_of_ready hready).symm.trans h
  rw [tickState, tickPhases_beeps]
  set d := debouncePhase Config.hardware raw s.toPanel.beginTick with hd
  have hstart : d.beeps = [] := by simp [hd]
  have hphase : (togglePhases Config.hardware d).cphase ≠ phaseReserved := by
    simpa [togglePhases, hd] using hready.2.2
  have hlights := beepsOnce_lightsPhase Config.hardware d
  have hvalet := beepsOnce_valetPhase Config.hardware (lightsPhase Config.hardware d)
  have hdoors := beepsOnce_doorsPhase Config.hardware (valetPhase Config.hardware (lightsPhase Config.hardware d))
  have haccessory := beepsOnce_accessoryPhases Config.hardware hphase
  constructor
  · have h1 := hlights.length_le
    have h2 := hvalet.length_le
    have h3 := hdoors.length_le
    have h4 := haccessory.length_le
    rw [hstart, List.length_nil] at h1
    rw [togglePhases] at h4 ⊢
    omega
  · have h1 := hlights.accessory_length_le
    have h2 := hvalet.accessory_length_le
    have h3 := hdoors.accessory_length_le
    have h4 := haccessory.accessory_length_le
    rw [hstart, List.filter_nil, List.length_nil] at h1
    rw [togglePhases] at h4 ⊢
    simp only [Bool.toNat_false, Bool.toNat_true] at h1 h2 h3 h4
    omega

/-! ### Debounce (spec/40_debounce.md R100 to R102) -/

/-- Settles O26: each channel is debounced once, from its own values, in any order. -/
theorem debounceOrderIrrelevant : Obligations.DebounceOrderIrrelevant := by
  unfold Obligations.DebounceOrderIrrelevant
  intro c raw s order hperm
  have hnodup : c.channels.Nodup := Channel.nodup_all.sublist (List.take_sublist _ _)
  obtain ⟨hframe, hvalues⟩ := foldl_debounce_spec c raw order (hperm.nodup_iff.mpr hnodup) s
  obtain ⟨hframe', hvalues'⟩ := foldl_debounce_spec c raw c.channels hnodup s
  rw [debouncePhase, hframe, hframe']
  simp only [hperm.mem_iff] at hvalues
  congr 2
  · exact PerCh.ext_get fun ch => (hvalues ch).1.trans (hvalues' ch).1.symm
  · exact PerCh.ext_get fun ch => (hvalues ch).2.1.trans (hvalues' ch).2.1.symm
  · exact PerCh.ext_get fun ch => (hvalues ch).2.2.trans (hvalues' ch).2.2.symm

section DebouncedLevels

variable {press h : Bool} {n : Byte}

/-- A level becomes 1 only with its counter at 160. -/
theorem debouncedHeld_becomes_true (hb : h = false) (ha : debouncedHeld Config.hardware press n h = true) :
    n.toNat = 160 := by
  subst hb
  cases press with
  | true => simpa [debouncedHeld_press] using ha
  | false => simp [debouncedHeld_release] at ha

/-- A level becomes 0 only with its counter below 10, on a release. -/
theorem debouncedHeld_becomes_false (hb : h = true) (ha : debouncedHeld Config.hardware press n h = false) :
    n.toNat < 10 ∧ press = false := by
  subst hb
  cases press with
  | true => simp [debouncedHeld_press] at ha
  | false => exact ⟨by simpa [debouncedHeld_release] using ha, rfl⟩

end DebouncedLevels

/-- A tick's counters and levels are those of its debounce phase. -/
theorem tickState_debounced (raw : RawIn) (s : State) (ch : Channel) :
    (tickState raw s).cnt.get ch = debouncedCnt Config.hardware (pressed raw ch) (s.cnt.get ch) ∧
      (tickState raw s).held.get ch =
        debouncedHeld Config.hardware (pressed raw ch) ((tickState raw s).cnt.get ch) (s.held.get ch) := by
  obtain ⟨hcnt, hheld⟩ := tickPhases_debounced Config.hardware raw s.toPanel
  obtain ⟨hc, hh, -⟩ := debouncePhase_hardware raw s.toPanel.beginTick ch
  rw [tickState, hcnt, hheld, hh, hc]
  exact ⟨rfl, rfl⟩

/-- A channel's debounce alone: the levels of the other channels stay. -/
theorem debounceChannel_held {w : Nat} (press : Bool) (ch ch' : Channel) (s : Panel w)
    (hne : (debounceChannel Config.hardware ch' press s).held.get ch ≠ s.held.get ch) :
    ch = ch' ∧ (debounceChannel Config.hardware ch' press s).held.get ch =
      debouncedHeld Config.hardware press ((debounceChannel Config.hardware ch' press s).cnt.get ch)
        (s.held.get ch) := by
  obtain ⟨-, hcnt, hheld, -, hothers⟩ := debounceChannel_spec Config.hardware ch' press s
  by_cases hch : ch = ch'
  · subst hch
    exact ⟨rfl, by rw [hheld, hcnt]⟩
  · exact absurd (hothers ch hch).2.1 hne

/-- A level changes only by a debounce of its channel, alone or in a tick that reads it so. -/
theorem exec_changes_held {i : Instr} {s t : State} {ch : Channel} (h : exec i s = .next t) (hb : ¬ isBoot i)
    (hne : t.held.get ch ≠ s.held.get ch) :
    ∃ press, t.held.get ch = debouncedHeld Config.hardware press (t.cnt.get ch) (s.held.get ch) ∧
      (i = (if press then .debPress ch else .debRelease ch) ∨ ∃ raw, i = .tick raw ∧ pressed raw ch = press) := by
  by_cases hi : isExternal i
  · obtain ⟨raw, rfl⟩ := (isExternal_cases hi).resolve_right hb
    obtain ⟨-, ⟨why, rfl⟩ | ⟨-, rfl⟩⟩ := exec_tick_cases h
    · exact absurd rfl hne
    · exact ⟨pressed raw ch, (tickState_debounced raw s ch).2, .inr ⟨raw, rfl, rfl⟩⟩
  · obtain ⟨hwriters, -⟩ := registerWriters i s t h hi
    obtain ⟨ch', rfl | rfl⟩ := hwriters (.inr fun heq => hne (by rw [heq]))
    · cases (exec_debPress ch' s).symm.trans h
      obtain ⟨rfl, hheld⟩ := debounceChannel_held true ch ch' s.toPanel hne
      exact ⟨true, hheld, .inl rfl⟩
    · cases (exec_debRelease ch' s).symm.trans h
      obtain ⟨rfl, hheld⟩ := debounceChannel_held false ch ch' s.toPanel hne
      exact ⟨false, hheld, .inl rfl⟩

/-- Settles O27: a level changes only by a debounce of its channel, alone or in a tick. -/
theorem heldChangesOnlyAtLevels : Obligations.HeldChangesOnlyAtLevels := by
  unfold Obligations.HeldChangesOnlyAtLevels
  intro i s t ch h hboot
  by_cases hsame : t.held.get ch = s.held.get ch
  · rw [hsame]
    exact ⟨fun h h' => absurd (h.symm.trans h') Bool.false_ne_true,
      fun h h' => absurd (h'.symm.trans h) Bool.false_ne_true⟩
  · obtain ⟨press, hheld, hi⟩ := exec_changes_held h hboot hsame
    rw [hheld]
    refine ⟨debouncedHeld_becomes_true, fun hb ha => ?_⟩
    obtain ⟨hcnt, rfl⟩ := debouncedHeld_becomes_false hb ha
    exact ⟨hcnt, hi⟩

end Sys2Proof.Machine

namespace Sys2Proof.Machine

open Sys2Proof.Safety

/-! ### Runs of ticks (spec/44_tick.md R205) -/

/-- The state after ticks that all run their phases. -/
def runTicks (ws : List RawIn) (s : State) : State := ws.foldl (fun t w => tickState w t) s

@[simp] theorem runTicks_nil (s : State) : runTicks [] s = s := rfl

@[simp] theorem runTicks_cons (w : RawIn) (ws : List RawIn) (s : State) :
    runTicks (w :: ws) s = runTicks ws (tickState w s) := rfl

theorem runTicks_append (ws vs : List RawIn) (s : State) : runTicks (ws ++ vs) s = runTicks vs (runTicks ws s) :=
  List.foldl_append

/-- From a ready state every tick completes, and the run ends in the state its ticks leave. -/
theorem observeTicks_of_ready (ws : List RawIn) {s : State} (h : Ready s) :
    (observeTicks ws s).2 = .next (runTicks ws s) := by
  induction ws generalizing s with
  | nil => rfl
  | cons w ws ih =>
    have hready := ready_tickState (raw := w) h
    have hmark : (tickState w s).refused.isSome = false := by rw [hready.1]; rfl
    simp only [observeTicks, exec_tick_of_ready h, hmark, Bool.false_eq_true, if_false]
    exact ih hready

/-! ### Press and release confirmation (spec/40_debounce.md section 4) -/

section Confirmation

variable {ch : Channel} {s : State} {ws : List RawIn}

/-- Pressed ticks count up to 160, and the level is set from there. -/
theorem runTicks_pressed (hle : (s.cnt.get ch).toNat ≤ 160)
    (hheld : s.held.get ch = decide (160 ≤ (s.cnt.get ch).toNat)) (hws : ∀ w ∈ ws, pressed w ch = true) :
    ((runTicks ws s).cnt.get ch).toNat = min ((s.cnt.get ch).toNat + ws.length) 160 ∧
      (runTicks ws s).held.get ch = decide (160 ≤ (s.cnt.get ch).toNat + ws.length) := by
  induction ws generalizing s with
  | nil => exact ⟨(Nat.min_eq_left hle).symm, hheld⟩
  | cons w ws ih =>
    obtain ⟨hw, hws⟩ := List.forall_mem_cons.mp hws
    obtain ⟨hcnt, hlevel⟩ := tickState_debounced w s ch
    rw [hw] at hcnt hlevel
    rw [debouncedHeld_press, hheld] at hlevel
    have hnum := congrArg BitVec.toNat hcnt
    rw [debouncedCnt_press_toNat] at hnum
    have hmin : ((tickState w s).cnt.get ch).toNat = min ((s.cnt.get ch).toNat + 1) 160 := by
      rw [hnum]; split_ifs <;> omega
    have hstart : (tickState w s).held.get ch = decide (160 ≤ ((tickState w s).cnt.get ch).toNat) := by
      rw [hlevel, ← Bool.decide_or, decide_eq_decide]; omega
    obtain ⟨hc, hh⟩ := ih (by omega) hstart hws
    rw [runTicks_cons, hc, hh, List.length_cons, decide_eq_decide]
    omega

/-- Released ticks count down to 0, and the level is clear from below 10. -/
theorem runTicks_released (hheld : s.held.get ch = decide (10 ≤ (s.cnt.get ch).toNat))
    (hws : ∀ w ∈ ws, pressed w ch = false) :
    ((runTicks ws s).cnt.get ch).toNat = (s.cnt.get ch).toNat - ws.length ∧
      (runTicks ws s).held.get ch = decide (10 ≤ (s.cnt.get ch).toNat - ws.length) := by
  induction ws generalizing s with
  | nil => exact ⟨rfl, hheld⟩
  | cons w ws ih =>
    obtain ⟨hw, hws⟩ := List.forall_mem_cons.mp hws
    obtain ⟨hcnt, hlevel⟩ := tickState_debounced w s ch
    rw [hw] at hcnt hlevel
    rw [debouncedHeld_release, hheld] at hlevel
    have hnum := congrArg BitVec.toNat hcnt
    rw [debouncedCnt_release_toNat] at hnum
    have hstart : (tickState w s).held.get ch = decide (10 ≤ ((tickState w s).cnt.get ch).toNat) := by
      rw [hlevel, ← decide_not, ← Bool.decide_and, decide_eq_decide]; omega
    obtain ⟨hc, hh⟩ := ih hstart hws
    rw [runTicks_cons, hc, hh, List.length_cons, decide_eq_decide]
    omega

end Confirmation

/-- Settles O28: the run's ticks are all pressed, from a counter at 0. -/
theorem pressConfirmation : Obligations.PressConfirmation := by
  unfold Obligations.PressConfirmation
  intro ch s ws hready hcnt hheld hws
  have hzero : (s.cnt.get ch).toNat = 0 := by rw [hcnt]; rfl
  obtain ⟨hc, hh⟩ := runTicks_pressed (s := s) (by omega) (by rw [hheld, hzero]; rfl) hws
  rw [hzero, Nat.zero_add] at hc hh
  exact ⟨_, observeTicks_of_ready ws hready, hc, hh⟩

/-- Settles O29: the run's ticks are all released, from a held channel. -/
theorem releaseConfirmation : Obligations.ReleaseConfirmation := by
  unfold Obligations.ReleaseConfirmation
  intro ch s ws hready hheld hle hws
  obtain ⟨hc, hh⟩ := runTicks_released (hheld.trans (decide_eq_true hle).symm) hws
  refine ⟨_, observeTicks_of_ready ws hready, hc, hh.trans ?_⟩
  rw [decide_eq_decide]; omega

/-! ### The rollover period (spec/43_blink.md section 2) -/

/-- Adding in two steps carries the same quotient: of `n` ticks after `a`, those that complete a period. -/
theorem div_add_div_carry (a n m : Nat) : a / m + (a % m + n) / m = (a + n) / m := by
  obtain rfl | hm := Nat.eq_zero_or_pos m
  · simp
  · conv_rhs => rw [← Nat.div_add_mod a m, Nat.add_assoc, Nat.mul_add_div hm]

/-- A tick within the period completes it exactly at its last value. -/
theorem succ_div_mod_period {p limit : Nat} (h : p ≤ limit) :
    (p + 1) % (limit + 1) = (if limit < p + 1 then 0 else p + 1) ∧
      (p + 1) / (limit + 1) = (if limit < p + 1 then 1 else 0) := by
  split_ifs with hlast
  · obtain rfl : p = limit := by omega
    exact ⟨Nat.mod_self _, Nat.div_self (Nat.succ_pos _)⟩
  · exact ⟨Nat.mod_eq_of_lt (by omega), Nat.div_eq_of_lt (by omega)⟩

section Period

variable {s : State}

/-- The pace and the parity after a tick: a rollover is a completed period. -/
theorem tickState_pace (raw : RawIn) (h : PaceBounded s.toPanel) :
    (tickState raw s).pace.toNat = (s.pace.toNat + 1) % (Config.hardware.paceLimit + 1) ∧
      (tickState raw s).parity.toNat =
        (s.parity.toNat + (s.pace.toNat + 1) / (Config.hardware.paceLimit + 1)) % 256 := by
  obtain ⟨hpace, hparity⟩ := tickPhases_pace Config.hardware raw s.toPanel
  obtain ⟨hmod, hdiv⟩ := succ_div_mod_period (p := s.pace.toNat) h
  rw [tickState, hpace, hparity, hmod, hdiv]
  refine ⟨rfl, ?_⟩
  split_ifs
  · exact BitVec.toNat_add s.parity 1
  · exact (Nat.mod_eq_of_lt s.parity.isLt).symm

theorem paceBounded_tickState (raw : RawIn) (h : PaceBounded s.toPanel) : PaceBounded (tickState raw s).toPanel := by
  rw [PaceBounded, (tickState_pace raw h).1]
  exact Nat.le_of_lt_succ (Nat.mod_lt _ (Nat.succ_pos _))

/-- The pace and the parity after a run: the periods completed since. -/
theorem runTicks_pace (ws : List RawIn) (h : PaceBounded s.toPanel) :
    (runTicks ws s).pace.toNat = (s.pace.toNat + ws.length) % (Config.hardware.paceLimit + 1) ∧
      (runTicks ws s).parity.toNat =
        (s.parity.toNat + (s.pace.toNat + ws.length) / (Config.hardware.paceLimit + 1)) % 256 := by
  induction ws generalizing s with
  | nil =>
    have hlt : s.pace.toNat < Config.hardware.paceLimit + 1 := Nat.lt_succ_of_le h
    exact ⟨(Nat.mod_eq_of_lt hlt).symm, by
      rw [List.length_nil, Nat.add_zero, Nat.div_eq_of_lt hlt]; exact (Nat.mod_eq_of_lt s.parity.isLt).symm⟩
  | cons w ws ih =>
    obtain ⟨hpace, hparity⟩ := tickState_pace w h
    obtain ⟨ihpace, ihparity⟩ := ih (paceBounded_tickState w h)
    have hlen : s.pace.toNat + (w :: ws).length = s.pace.toNat + 1 + ws.length := by rw [List.length_cons]; omega
    rw [runTicks_cons, ihpace, ihparity, hpace, hparity, hlen]
    exact ⟨Nat.mod_add_mod _ _ _, by rw [Nat.mod_add_mod, Nat.add_assoc, div_add_div_carry]⟩

end Period

/-- A main boot is ready, and its pace and parity are at 0. -/
theorem boot_main_ready {s : State} {raw : RawIn} (h : raw.getLsbD 1 = true) :
    Ready (s.boot raw) ∧ (s.boot raw).pace.toNat = 0 ∧ (s.boot raw).parity.toNat = 0 := by
  rw [boot_main h]
  exact ⟨⟨rfl, rfl, by simp [State.reset, Panel.reset, Block.reset, phaseReserved]⟩, BitVec.toNat_zero,
    BitVec.toNat_zero⟩

/-- Settles O49: the step by the pace counter, the run by the periods it completes. -/
theorem rolloverPeriod : Obligations.RolloverPeriod := by
  unfold Obligations.RolloverPeriod
  refine ⟨fun raw s hready hbound => ?step, fun sample ws hvalet => ?run⟩
  case step =>
    obtain ⟨hpace, hparity⟩ := tickState_pace raw hbound
    obtain ⟨hmod, hdiv⟩ := succ_div_mod_period (p := s.pace.toNat) hbound
    refine ⟨_, exec_tick_of_ready hready, hpace, ?_⟩
    rw [hparity, hpace, hmod, hdiv]
    by_cases hlast : Config.hardware.paceLimit < s.pace.toNat + 1 <;> simp [hlast]
  case run =>
    obtain ⟨hready, hpace, hparity⟩ := boot_main_ready (s := State.reset) hvalet
    have hbound : PaceBounded (State.reset.boot sample).toPanel := by rw [PaceBounded, hpace]; exact Nat.zero_le _
    obtain ⟨hp, hq⟩ := runTicks_pace ws hbound
    refine ⟨_, observeTicks_of_ready ws hready, ?_, ?_⟩
    · rw [hp, hpace, Nat.zero_add]
    · rw [hq, hparity, hpace, Nat.zero_add, Nat.zero_add]

/-! ### Blink sequences (spec/43_blink.md section 4) -/

/-- The writes to a channel's indicator. -/
def indWrites {w : Nat} (ch : Channel) (s : Panel w) : List OutWrite :=
  s.writes.filter fun x => decide (x.line = .ind ch)

section OneRollover

variable {w : Nat} (s : Panel w) (ch : Channel)

/-- Of the acting channels' writes, those to one indicator: its own, where the channel acts. -/
theorem filter_channelWrites (acts : Channel → Bool) :
    ((Channel.all.filter acts).map (channelWrite s)).filter (fun x => decide (x.line = .ind ch)) =
      if acts ch then [channelWrite s ch] else [] := by
  have hone : Channel.all.filter (fun a => decide (a = ch)) = [ch] := by cases ch <;> decide
  have hline : (fun x : OutWrite => decide (x.line = .ind ch)) ∘ channelWrite s = fun a => decide (a = ch) := by
    funext a
    simp [channelWrite]
  rw [List.filter_map, hline, List.filter_filter]
  simp only [Bool.and_comm]
  rw [← List.filter_filter, hone, List.filter_singleton]
  cases acts ch <;> rfl

/-- The writes of a rollover to one indicator. -/
theorem indWrites_rolloverPace :
    indWrites ch (rolloverPace Config.hardware s) =
      indWrites ch s ++ if channelActs Config.hardware (rolloverCounters s) ch then [channelWrite s ch] else [] := by
  rw [indWrites, rolloverPace_writes, List.filter_append, filter_channelWrites]; rfl

/-- A channel acts on a rollover where its count is not 0 and it is fast or the new parity is even (R174, R181). -/
theorem channelActs_rollover :
    channelActs Config.hardware (rolloverCounters s) ch = true ↔
      (blinkCount (s.blink.get ch)).toNat ≠ 0 ∧
        (blinkSlow Config.hardware (s.blink.get ch) = false ∨ (s.parity.toNat + 1) % 2 = 0) := by
  have hzero : blinkCount (s.blink.get ch) ≠ 0 ↔ (blinkCount (s.blink.get ch)).toNat ≠ 0 := by
    rw [ne_eq, ne_eq, ← BitVec.toNat_inj]; rfl
  have hparity : (s.parity + 1).toNat % 2 = (s.parity.toNat + 1) % 2 := by
    rw [BitVec.toNat_add]; exact Nat.mod_mod_of_dvd _ (by decide)
  rw [channelActs, decide_eq_true_iff]
  exact and_congr hzero (or_congr_right (by rw [← hparity]; rfl))

end OneRollover

/-- How many of the first `k` rollovers after parity `q` a channel may act on: every one if it is fast, those with even
new parity if it is slow (R174, R181). -/
def chances (slow : Bool) (q k : Nat) : Nat := if slow then (k + q % 2) / 2 else k

theorem chances_zero (slow : Bool) (q : Nat) : chances slow q 0 = 0 := by
  cases slow <;> simp [chances]

theorem chances_succ (slow : Bool) (q k : Nat) :
    chances slow q (k + 1) = chances slow q k + if slow = false ∨ (q + k + 1) % 2 = 0 then 1 else 0 := by
  cases slow with
  | false => simp [chances]
  | true => simp only [chances, if_true, Bool.true_eq_false, false_or]; split_ifs <;> omega

/-- The first `n` writes of a blink of count `m`: on for an even count, counting down (R177, R178). -/
def blinkWrites (ch : Channel) (m n : Nat) : List OutWrite :=
  (List.range n).map fun j => ⟨.ind ch, decide ((m - j) % 2 = 0)⟩

theorem blinkWrites_succ (ch : Channel) (m n : Nat) :
    blinkWrites ch m (n + 1) = blinkWrites ch m n ++ [⟨.ind ch, decide ((m - n) % 2 = 0)⟩] := by
  rw [blinkWrites, List.range_succ, List.map_append]; rfl

/-- An even count is written on first, then off and on in turn. -/
theorem blinkWrites_even (ch : Channel) {m n : Nat} (hm : m % 2 = 0) (h : n ≤ m) :
    blinkWrites ch m n = (List.range n).map fun j => ⟨.ind ch, decide (j % 2 = 0)⟩ := by
  refine List.map_congr_left fun j hj => ?_
  have hlt := List.mem_range.mp hj
  rw [OutWrite.mk.injEq, decide_eq_decide]
  exact ⟨rfl, by omega⟩

/-- A channel after `k` rollovers: it has acted on as many as its count and its chances allow, and written its indicator
each time. -/
theorem iterate_rolloverPace {w : Nat} (ch : Channel) (k : Nat) (s : Panel w) {m : Nat} {slow : Bool}
    (hm : (blinkCount (s.blink.get ch)).toNat = m) (hslow : blinkSlow Config.hardware (s.blink.get ch) = slow) :
    ((rolloverPace Config.hardware)^[k] s).parity.toNat = (s.parity.toNat + k) % 256 ∧
      (blinkCount (((rolloverPace Config.hardware)^[k] s).blink.get ch)).toNat = m - chances slow s.parity.toNat k ∧
      blinkSlow Config.hardware (((rolloverPace Config.hardware)^[k] s).blink.get ch) = slow ∧
      indWrites ch ((rolloverPace Config.hardware)^[k] s) =
        indWrites ch s ++ blinkWrites ch m (min (chances slow s.parity.toNat k) m) := by
  induction k with
  | zero =>
    rw [chances_zero, Nat.zero_min]
    exact ⟨(Nat.mod_eq_of_lt s.parity.isLt).symm, hm, hslow, (List.append_nil _).symm⟩
  | succ k ih =>
    rw [Function.iterate_succ_apply', chances_succ]
    generalize (rolloverPace Config.hardware)^[k] s = t at ih ⊢
    obtain ⟨hparity, hcount, hrate, hwrites⟩ := ih
    have hnext : (rolloverPace Config.hardware t).parity.toNat = (s.parity.toNat + (k + 1)) % 256 := by
      rw [rolloverPace_parity, BitVec.toNat_add, hparity, Nat.mod_add_mod]; rfl
    have hacts := channelActs_rollover t ch
    have heven : (t.parity.toNat + 1) % 2 = (s.parity.toNat + k + 1) % 2 := by omega
    rw [hcount, hrate, heven] at hacts
    rw [indWrites_rolloverPace, hwrites, List.append_assoc]
    generalize chances slow s.parity.toNat k = n at hcount hacts ⊢
    cases ha : channelActs Config.hardware (rolloverCounters t) ch with
    | true =>
      obtain ⟨hleft, hchance⟩ := hacts.mp ha
      obtain ⟨hblink, -⟩ := rolloverPace_of_acts t ha
      have hne : blinkCount (t.blink.get ch) ≠ 0 := fun h => by rw [h] at hcount; exact hleft hcount.symm
      refine ⟨hnext, ?_, ?_, ?_⟩
      · rw [hblink, blinkCount_sub_one hne, hcount, if_pos hchance]; omega
      · rw [hblink, blinkSlow_sub_one hne, hrate]
      · rw [if_pos rfl, if_pos hchance, Nat.min_eq_left (by omega : n ≤ m), Nat.min_eq_left (by omega : n + 1 ≤ m),
          blinkWrites_succ, channelWrite, hcount]
    | false =>
      obtain ⟨hblink, -⟩ := rolloverPace_of_not_acts t ha
      rw [ha, Bool.false_eq_true, false_iff] at hacts
      have hmin : m - (n + if slow = false ∨ (s.parity.toNat + k + 1) % 2 = 0 then 1 else 0) = m - n ∧
          min (n + if slow = false ∨ (s.parity.toNat + k + 1) % 2 = 0 then 1 else 0) m = min n m := by
        split_ifs with hchance
        · have hdone : m - n = 0 := not_not.mp fun hleft => hacts ⟨hleft, hchance⟩
          omega
        · omega
      rw [hmin.1, hmin.2, hblink, if_neg Bool.false_ne_true, List.append_nil]
      exact ⟨hnext, hcount, hrate, rfl⟩

/-- Rollovers performed in sequence. -/
theorem perform_rollovers (k : Nat) (s : State) :
    perform (List.replicate k .paceRollover) s =
      .next (s.withPanel ((rolloverPace Config.hardware)^[k] s.toPanel)) := by
  induction k generalizing s with
  | zero => rfl
  | succ k ih => rw [List.replicate_succ, perform_cons (exec_paceRollover s), ih]; rfl

/-- A blink request of up to 63 repeats, fast or slow. -/
theorem exec_blinkRequest (ch : Channel) (slow : Bool) {n : Nat} (h : n ≤ 63) (s : State) :
    exec (if slow then .setSlowBlink ch n else .setFastBlink ch n) s =
      .next (s.withPanel (s.toPanel.putBlink Config.hardware ch slow (BitVec.ofNat 6 n))) := by
  cases slow with
  | true => exact (exec_setSlowBlink ch n s).trans (by rw [requestBlink_of_le _ _ _ _ h]; rfl)
  | false => exact (exec_setFastBlink ch n s).trans (by rw [requestBlink_of_le _ _ _ _ h]; rfl)

/-- A blink of `n` repeats over `k` rollovers: twice `n` actions at most, on in the first. -/
theorem blinkSequence (ch : Channel) (slow : Bool) {n : Nat} (k : Nat) (s : State) (h : n ≤ 63) :
    ∃ t : State,
      perform ((if slow then .setSlowBlink ch n else .setFastBlink ch n) :: List.replicate k .paceRollover) s =
        .next t ∧
      (blinkCount (t.blink.get ch)).toNat = 2 * n - chances slow s.parity.toNat k ∧
      blinkSlow Config.hardware (t.blink.get ch) = slow ∧
      indWrites ch t.toPanel =
        indWrites ch s.toPanel ++
          (List.range (min (chances slow s.parity.toNat k) (2 * n))).map fun j => ⟨.ind ch, decide (j % 2 = 0)⟩ := by
  obtain ⟨hcount, hrate⟩ := blinkCount_requestByte slow (BitVec.ofNat 6 n)
  rw [BitVec.toNat_ofNat, Nat.mod_eq_of_lt (by omega : n < 2 ^ 6)] at hcount
  have hrequest := exec_blinkRequest ch slow h s
  obtain ⟨p, hp⟩ : ∃ p, p = s.toPanel.putBlink Config.hardware ch slow (BitVec.ofNat 6 n) := ⟨_, rfl⟩
  rw [← hp] at hrequest
  have hblink : p.blink.get ch = requestByte Config.hardware slow (BitVec.ofNat 6 n) := by
    rw [hp, putBlink_blink, PerCh.get_set_self]
  rw [← hblink] at hcount hrate
  obtain ⟨-, hc, hs, hw⟩ := iterate_rolloverPace ch k p hcount hrate
  rw [blinkWrites_even ch (by omega) (Nat.min_le_right _ _)] at hw
  have hparity : p.parity = s.parity := by rw [hp, putBlink_parity]
  have hstart : indWrites ch p = indWrites ch s.toPanel := by rw [hp]; rfl
  rw [hparity] at hc hw
  rw [hstart] at hw
  refine ⟨s.withPanel ((rolloverPace Config.hardware)^[k] p), ?_, hc, hs, hw⟩
  rw [perform_cons hrequest, perform_rollovers]

/-- Settles O50: a fast channel has a chance on every rollover. -/
theorem fastBlinkSequence : Obligations.FastBlinkSequence := by
  unfold Obligations.FastBlinkSequence
  exact fun ch n k s h => blinkSequence ch false k s h

/-- Settles O51: a slow channel has a chance on the rollovers with even new parity. -/
theorem slowBlinkSequence : Obligations.SlowBlinkSequence := by
  unfold Obligations.SlowBlinkSequence
  exact fun ch n k s h => blinkSequence ch true k s h

end Sys2Proof.Machine

namespace Sys2Proof.Machine

open Sys2Proof.Safety

/-! ### The settled facts of the panel -/

/-- What `Settled` says of the panel: all but the environment's queue. -/
structure PanelSettled (p : Panel Config.hardware.paceBits) : Prop where
  debounce : DebounceSettled p
  accessory : AccessorySettled p
  elapsed : ElapsedBounded p
  pace : PaceBounded p
  indicator : AccessoryIndicatorIdle p
  lights : LightsRelayFollows p
  demo : DemoRefused p

theorem settled_iff {s : State} : Settled s ↔ PortsOnly s ∧ PanelSettled s.toPanel :=
  ⟨fun ⟨h0, h1, h2, h3, h4, h5, h6, h7⟩ => ⟨h0, h1, h2, h3, h4, h5, h6, h7⟩,
    fun ⟨h0, h1, h2, h3, h4, h5, h6, h7⟩ => ⟨h0, h1, h2, h3, h4, h5, h6, h7⟩⟩

/-- After reset no counter runs, no line is on and nothing is selected, in either mode. -/
theorem panelSettled_reset (m : Mode) :
    PanelSettled
      { Panel.reset Config.hardware.paceBits with
        mode := m, refused := if m = .demo then some .demoMode else none } where
  debounce := fun ch => by simp [Panel.reset]
  accessory := by simp [AccessorySettled, Panel.reset, Block.reset, phaseLock, phaseJust, phaseReserved, OutLevels.get]
  elapsed := fun _ _ => Nat.zero_le _
  pace := by simp [PaceBounded, Panel.reset, Block.reset]
  indicator := by simp [AccessoryIndicatorIdle, Panel.reset]
  lights := rfl
  demo := rfl

theorem panelSettled_boot (raw : RawIn) : PanelSettled (Panel.boot Config.hardware.paceBits raw) := by
  rw [Panel.boot]
  split
  · exact panelSettled_reset .main
  · exact panelSettled_reset .demo

/-- Settles O55: the reset panel is settled and nothing is queued. -/
theorem resetIsSettled : Obligations.ResetIsSettled := by
  unfold Obligations.ResetIsSettled
  exact settled_iff.mpr ⟨fun _ h => (List.not_mem_nil h).elim, panelSettled_reset .main⟩

/-! ### Debounce from a settled panel (spec/40_debounce.md section 4) -/

section DebouncedValues

variable {press : Bool} {n : Byte}

/-- The counter never leaves its range (R22). -/
theorem debouncedCnt_le (h : n.toNat ≤ 160) : (debouncedCnt Config.hardware press n).toNat ≤ 160 := by
  cases press with
  | true => rw [debouncedCnt_press_toNat]; split_ifs <;> omega
  | false => rw [debouncedCnt_release_toNat]; omega

/-- A level stays set only while its counter is at 10 or above (R106). -/
theorem le_debouncedCnt_of_held {h : Bool} (hn : h = true → 10 ≤ n.toNat)
    (hh : debouncedHeld Config.hardware press (debouncedCnt Config.hardware press n) h = true) :
    10 ≤ (debouncedCnt Config.hardware press n).toNat := by
  cases press with
  | true =>
    rw [debouncedHeld_press, Bool.or_eq_true, decide_eq_true_iff] at hh
    obtain hh | hh := hh
    · omega
    · have := hn hh
      rw [debouncedCnt_press_toNat]; split_ifs <;> omega
  | false =>
    rw [debouncedHeld_release, Bool.and_eq_true, Bool.not_eq_true', decide_eq_false_iff_not] at hh
    omega

end DebouncedValues

section Debounced

variable {w : Nat} {raw : RawIn} {s : Panel w} {ch : Channel}

/-- A channel read released has no rising edge: what stays held keeps its edge memory. -/
theorem rise_debounced_of_released (hs : s.oldHeld.get ch = s.held.get ch) (hraw : pressed raw ch = false) :
    rise (debouncePhase Config.hardware raw s) ch = false := by
  obtain ⟨-, hheld, hold⟩ := debouncePhase_hardware raw s ch
  rw [rise, hheld, hold, hraw, debouncedHeld_release, debouncedOld_release, hs]
  cases s.held.get ch <;> cases decide ((debouncedCnt Config.hardware false (s.cnt.get ch)).toNat < 10) <;> simp

/-- A channel that was held has no rising edge, but for doors, whose memory a press may clear. -/
theorem rise_debounced_of_held (hch : ch ≠ .doors) (hs : s.oldHeld.get ch = s.held.get ch)
    (hheld : s.held.get ch = true) : rise (debouncePhase Config.hardware raw s) ch = false := by
  cases hraw : pressed raw ch with
  | false => exact rise_debounced_of_released hs hraw
  | true =>
    obtain ⟨-, -, hold⟩ := debouncePhase_hardware raw s ch
    rw [rise, hold, hraw, debouncedOld_press, hs, hheld]
    simp [hch]

/-- A falling edge after phase 1 is that of doors: every other channel clears its edge memory with its level (D7). -/
theorem doors_of_fall_debounced (hs : s.oldHeld.get ch = s.held.get ch)
    (hfall : fall (debouncePhase Config.hardware raw s) ch = true) : ch = .doors := by
  obtain ⟨-, hheld, hold⟩ := debouncePhase_hardware raw s ch
  by_contra hch
  rw [fall, hheld, hold, hs] at hfall
  cases hraw : pressed raw ch with
  | true =>
    rw [hraw, debouncedHeld_press, debouncedOld_press] at hfall
    cases h : s.held.get ch <;> simp [h] at hfall
  | false =>
    rw [hraw, debouncedHeld_release, debouncedOld_release] at hfall
    cases h : s.held.get ch <;> simp [h, hch] at hfall

/-- Without an edge the edge memory is the level. -/
theorem oldHeld_eq_held_of_no_edge (hrise : rise s ch = false) (hfall : fall s ch = false) :
    s.oldHeld.get ch = s.held.get ch := by
  revert hrise hfall
  rw [rise, fall]
  cases s.held.get ch <;> cases s.oldHeld.get ch <;> simp

end Debounced

/-! ### The panel that phase 3 of a tick starts from -/

/-- The panel after phases 1 and 2 of a tick. -/
def afterToggles (raw : RawIn) (p : Panel Config.hardware.paceBits) : Panel Config.hardware.paceBits :=
  togglePhases Config.hardware (debouncePhase Config.hardware raw p.beginTick)

section AfterToggles

variable (raw : RawIn) (p : Panel Config.hardware.paceBits)

/-- Phases 1 and 2 leave the accessory machine's registers and the pace. -/
theorem afterToggles_keeps :
    (afterToggles raw p).cphase = p.cphase ∧ (afterToggles raw p).sel = p.sel ∧
      (afterToggles raw p).elapsed = p.elapsed ∧ (afterToggles raw p).pace = p.pace := by
  simp [afterToggles, togglePhases]

theorem afterToggles_held :
    (afterToggles raw p).held = (debouncePhase Config.hardware raw p.beginTick).held := by
  simp [afterToggles, togglePhases]

/-- Phases 1 and 2 write no line but the lights relay. -/
theorem afterToggles_line {line : OutLine} (h : line ≠ .relayLights) :
    (afterToggles raw p).out.get line = p.out.get line := by
  rw [afterToggles, togglePhases_line _ _ h]
  simp

/-- The toggle actions do not see the accessory edge. -/
theorem afterToggles_rise :
    rise (afterToggles raw p) .accessory = rise (debouncePhase Config.hardware raw p.beginTick) .accessory := by
  rw [rise, rise, afterToggles_held, afterToggles, togglePhases_oldHeld, if_pos rfl]

theorem tickPhases_eq :
    tickPhases Config.hardware raw p =
      (blinkPhase Config.hardware (accessoryPhases Config.hardware (afterToggles raw p))).kick := rfl

/-- The lines after a tick, but for the indicators, are those after its accessory phases. -/
theorem tickPhases_line {line : OutLine} (h : ∀ ch, line ≠ .ind ch) :
    (tickPhases Config.hardware raw p).out.get line =
      (accessoryPhases Config.hardware (afterToggles raw p)).out.get line := by
  rw [tickPhases_eq, kick_out, blinkPhase_line _ _ h]

/-- The accessory machine's registers after a tick, `elapsed` with the tick's rollover. -/
theorem tickPhases_accessory :
    (tickPhases Config.hardware raw p).cphase = (accessoryPhases Config.hardware (afterToggles raw p)).cphase ∧
      (tickPhases Config.hardware raw p).sel = (accessoryPhases Config.hardware (afterToggles raw p)).sel ∧
      (tickPhases Config.hardware raw p).elapsed =
        (if Config.hardware.paceLimit < p.pace.toNat + 1 then
          (accessoryPhases Config.hardware (afterToggles raw p)).elapsed + 1
        else (accessoryPhases Config.hardware (afterToggles raw p)).elapsed) := by
  have hpace : (accessoryPhases Config.hardware (afterToggles raw p)).pace = p.pace := by
    simp [accessoryPhases, afterToggles, togglePhases]
  rw [tickPhases_eq, ← hpace]
  refine ⟨by simp, by simp, ?_⟩
  rw [kick_elapsed, blinkPhase_frame]

end AfterToggles

/-! ### The debounce facts after a tick (R104, R106) -/

section Acknowledged

variable {w : Nat} {c : Config} {s : Panel w}

theorem rise_togglePhases : rise (togglePhases c s) .accessory = rise s .accessory := by
  rw [rise, rise, togglePhases_oldHeld, if_pos rfl]
  simp [togglePhases]

/-- The toggle actions acknowledge the edges of their channels. -/
theorem togglePhases_acknowledges {ch : Channel} (hch : ch ≠ .accessory) (hfall : fall s ch = true → ch = .doors) :
    (togglePhases c s).oldHeld.get ch = s.held.get ch := by
  rw [togglePhases_oldHeld, if_neg hch]
  cases hr : rise s ch with
  | true =>
    obtain ⟨hheld, -⟩ := rise_iff.mp hr
    by_cases hd : ch = .doors
    · subst hd; simp [hr, hheld]
    · simp [hd, hheld]
  | false =>
    cases hf : fall s ch with
    | true =>
      obtain rfl := hfall hf
      obtain ⟨hheld, -⟩ := fall_iff.mp hf
      simp [hr, hf, hheld]
    | false =>
      rw [← oldHeld_eq_held_of_no_edge hr hf]
      split_ifs with hd <;> simp_all

/-- Phases 2 and 3 acknowledge every edge. -/
theorem edges_acknowledged (hphase : s.cphase ≠ phaseReserved) (hfall : ∀ ch, fall s ch = true → ch = .doors)
    (ch : Channel) : (edgePhase c (togglePhases c s)).oldHeld.get ch = s.held.get ch := by
  have hp : (togglePhases c s).cphase ≠ phaseReserved := by simpa [togglePhases] using hphase
  rw [edgePhase_oldHeld, rise_togglePhases]
  by_cases hch : ch = .accessory
  · subst hch
    cases hr : rise s .accessory with
    | true => rw [if_pos ⟨rfl, hp⟩, PerCh.get_set_self, (rise_iff.mp hr).1]
    | false =>
      have hf : fall s .accessory = false := Bool.eq_false_iff.mpr fun h => Channel.noConfusion (hfall _ h)
      rw [if_neg fun h => Bool.false_ne_true h.1, togglePhases_oldHeld, if_pos rfl, oldHeld_eq_held_of_no_edge hr hf]
  · rw [← togglePhases_acknowledges hch (hfall ch)]
    split_ifs
    · exact PerCh.get_set_ne _ _ hch
    · rfl

end Acknowledged

theorem debounceSettled_tickPhases {raw : RawIn} {p : Panel Config.hardware.paceBits} (hs : DebounceSettled p)
    (hphase : p.cphase ≠ phaseReserved) : DebounceSettled (tickPhases Config.hardware raw p) := by
  intro ch
  obtain ⟨hcnt, hheld⟩ := tickPhases_debounced Config.hardware raw p
  obtain ⟨hle, hten, -⟩ := hs ch
  obtain ⟨hc, hh, -⟩ := debouncePhase_hardware raw p.beginTick ch
  refine ⟨?range, ?level, ?edge⟩
  case range => rw [hcnt, hc]; exact debouncedCnt_le hle
  case level => rw [hcnt, hheld, hc, hh]; exact le_debouncedCnt_of_held hten
  case edge =>
    rw [tickPhases_oldHeld, hheld]
    refine edges_acknowledged (s := debouncePhase Config.hardware raw p.beginTick) (by simpa using hphase)
      (fun ch hf => ?_) ch
    obtain ⟨-, -, hedge⟩ := hs ch
    exact doors_of_fall_debounced (s := p.beginTick) hedge hf

/-! ### The accessory facts after a tick (R128, R129) -/

/-- The accessory facts that no debounce and no toggle action touches: those of the machine's registers and lines. -/
structure AccessoryCoherent {w : Nat} (s : Panel w) : Prop where
  lock : s.cphase = phaseLock → s.sel = 0
  just : s.cphase = phaseJust → s.sel ≠ 0 ∧ ∀ k : Pick, s.out.get (.relayAcc k) = decide (k.code = s.sel)
  off : s.cphase ≠ phaseJust → ∀ k : Pick, s.out.get (.relayAcc k) = false
  leds : ∀ k : Pick, s.out.get (.selLed k) = decide (k.code = s.sel)
  phase : s.cphase ≠ phaseReserved

theorem accessorySettled_iff {w : Nat} {s : Panel w} :
    AccessorySettled s ↔
      AccessoryCoherent s ∧
        (s.cphase = phaseLock → s.held.get .accessory = true ∧ s.oldHeld.get .accessory = true) := by
  constructor
  · intro ⟨hlock, hjust, hoff, hleds, hphase⟩
    exact ⟨⟨fun h => (hlock h).1, hjust, hoff, hleds, hphase⟩, fun h => (hlock h).2⟩
  · intro ⟨⟨hlock, hjust, hoff, hleds, hphase⟩, hheld⟩
    exact ⟨fun h => ⟨hlock h, hheld h⟩, hjust, hoff, hleds, hphase⟩

namespace AccessoryCoherent

variable {w : Nat} {s t : Panel w}

/-- The facts carry over to a panel with the same registers and accessory lines. -/
theorem congr (h : AccessoryCoherent s) (hphase : t.cphase = s.cphase) (hsel : t.sel = s.sel)
    (hled : ∀ k, t.out.get (.selLed k) = s.out.get (.selLed k))
    (hrelay : ∀ k, t.out.get (.relayAcc k) = s.out.get (.relayAcc k)) : AccessoryCoherent t := by
  obtain ⟨h1, h2, h3, h4, h5⟩ := h
  constructor <;> simpa only [hphase, hsel, hled, hrelay]

/-- A selection in WAIT. -/
theorem select (h : AccessoryCoherent s) (hp : s.cphase = phaseWait) :
    AccessoryCoherent (selectAction Config.hardware s) := by
  have hphase := (selectAction_cphase Config.hardware s).trans hp
  constructor
  case lock => rw [hphase]; intro h; simp [phaseWait, phaseLock] at h
  case just => rw [hphase]; intro h; simp [phaseWait, phaseJust] at h
  case off =>
    intro _ k
    rw [selectAction_line _ _ fun _ => OutLine.noConfusion]
    exact h.off (by rw [hp]; simp [phaseWait, phaseJust]) k
  case leds => intro k; rw [selectAction_sel, selectAction_led]
  case phase => rw [hphase]; simp [phaseWait, phaseReserved]

/-- A cancel clears the selection and every line. -/
theorem cancel (s : Panel w) : AccessoryCoherent (cancelAction Config.hardware s) := by
  have hphase := cancelAction_cphase Config.hardware s
  constructor
  case lock => exact fun _ => cancelAction_sel _ s
  case just => rw [hphase]; intro h; simp [phaseLock, phaseJust] at h
  case off => exact fun _ => cancelAction_relay s
  case leds => intro k; rw [cancelAction_sel, cancelAction_led]; exact (decide_eq_false k.code_ne_zero).symm
  case phase => rw [hphase]; simp [phaseLock, phaseReserved]

/-- A re-arm finds nothing selected, and no relay on. -/
theorem rearm (h : AccessoryCoherent s) : AccessoryCoherent (rearmAction s) := by
  obtain ⟨hp, -, heq⟩ | ⟨-, heq⟩ := rearmAction_cases s <;> rw [heq]
  · have hoff := h.off (by rw [hp]; simp [phaseLock, phaseJust])
    constructor
    case lock => intro h; simp [phaseWait, phaseLock] at h
    case just => intro h; simp [phaseWait, phaseJust] at h
    case off => exact fun _ => hoff
    case leds => exact h.leds
    case phase => simp [phaseWait, phaseReserved]
  · exact h

/-- A commit puts the selected relay on, and no other was. -/
theorem commit (h : AccessoryCoherent s) (c : Config) : AccessoryCoherent (commitAction c s) := by
  obtain ⟨k, hp, hk, -, heq⟩ | ⟨-, heq⟩ := commitAction_cases c s <;> rw [heq]
  · obtain ⟨hled, hrelay⟩ := commitOutputs_on s k
    have hphase := commitOutputs_cphase s k
    have hsel := (commitOutputs_sel s k).trans hk
    have hoff := h.off (by rw [hp]; simp [phaseWait, phaseJust])
    constructor
    case lock => rw [hphase]; intro h; simp [phaseJust, phaseLock] at h
    case just =>
      intro _
      rw [hsel]
      refine ⟨k.code_ne_zero, fun j => ?_⟩
      by_cases hj : j = k
      · rw [hj, hrelay, decide_eq_true rfl]
      · rw [commitOutputs_line s OutLine.noConfusion (fun h => hj (OutLine.relayAcc.inj h)), hoff,
          decide_eq_false fun h => hj (Pick.code_injective h)]
    case off => exact fun hne => absurd hphase hne
    case leds =>
      intro j
      rw [hsel]
      by_cases hj : j = k
      · rw [hj, hled, decide_eq_true rfl]
      · rw [commitOutputs_line s (fun h => hj (OutLine.selLed.inj h)) OutLine.noConfusion, h.leds, hk]
    case phase => rw [hphase]; simp [phaseJust, phaseReserved]
  · exact h

/-- The accessory phases of a tick keep the facts. -/
theorem phases (h : AccessoryCoherent s) : AccessoryCoherent (accessoryPhases Config.hardware s) := by
  obtain ⟨-, ⟨hp, heq⟩ | ⟨-, heq⟩ | ⟨-, heq⟩⟩ | ⟨-, heq⟩ := accessoryPhases_cases Config.hardware h.phase <;> rw [heq]
  · exact h.select hp
  · exact cancel s
  · exact h.congr rfl rfl (fun _ => rfl) (fun _ => rfl)
  · exact h.rearm.commit _

/-- LOCK after the accessory phases means that the button is held: an edge brought it, or no re-arm was due. -/
theorem held_of_lock (h : AccessoryCoherent s) (hlock : (accessoryPhases Config.hardware s).cphase = phaseLock) :
    s.held.get .accessory = true := by
  obtain ⟨hrise, -⟩ | ⟨-, heq⟩ := accessoryPhases_cases Config.hardware h.phase
  · exact (rise_iff.mp hrise).1
  · rw [heq] at hlock
    obtain ⟨k, -, -, -, hk⟩ | ⟨-, hk⟩ := commitAction_cases Config.hardware (rearmAction s) <;> rw [hk] at hlock
    · rw [commitOutputs_cphase] at hlock; simp [phaseJust, phaseLock] at hlock
    · obtain ⟨-, -, hr⟩ | ⟨hor, hr⟩ := rearmAction_cases s <;> rw [hr] at hlock
      · simp [phaseWait, phaseLock] at hlock
      · exact hor.resolve_left (not_not.mpr hlock)

/-- A selection that still waits after the accessory phases is at 10 rollovers at most: it is new, or no commit was
due. -/
theorem elapsed_le (h : AccessoryCoherent s) (hwait : (accessoryPhases Config.hardware s).cphase = phaseWait)
    (hsel : (accessoryPhases Config.hardware s).sel ≠ 0) : (accessoryPhases Config.hardware s).elapsed.toNat ≤ 10 := by
  obtain ⟨-, ⟨-, heq⟩ | ⟨-, heq⟩ | ⟨hp, heq⟩⟩ | ⟨-, heq⟩ := accessoryPhases_cases Config.hardware h.phase <;>
    rw [heq] at hwait hsel ⊢
  · rw [selectAction_frame]; exact Nat.zero_le _
  · rw [cancelAction_cphase] at hwait; simp [phaseLock, phaseWait] at hwait
  · exact absurd (hp.symm.trans hwait) (by simp [phaseLock, phaseWait])
  · obtain ⟨k, -, -, -, hk⟩ | ⟨hnot, hk⟩ := commitAction_cases Config.hardware (rearmAction s) <;>
      rw [hk] at hwait hsel ⊢
    · rw [commitOutputs_cphase] at hwait; simp [phaseJust, phaseWait] at hwait
    · have hdue := (hnot.resolve_left (not_not.mpr hwait)).resolve_left hsel
      rw [commitLevel_lt] at hdue
      omega

end AccessoryCoherent

section AccessoryAfterTick

variable {raw : RawIn} {p : Panel Config.hardware.paceBits}

theorem accessoryCoherent_afterToggles (h : AccessoryCoherent p) : AccessoryCoherent (afterToggles raw p) := by
  obtain ⟨hphase, hsel, -, -⟩ := afterToggles_keeps raw p
  exact h.congr hphase hsel (fun _ => afterToggles_line raw p OutLine.noConfusion)
    (fun _ => afterToggles_line raw p OutLine.noConfusion)

theorem accessoryCoherent_tickPhases (h : AccessoryCoherent p) :
    AccessoryCoherent (tickPhases Config.hardware raw p) := by
  obtain ⟨hphase, hsel, -⟩ := tickPhases_accessory raw p
  refine (accessoryCoherent_afterToggles (raw := raw) h).phases.congr hphase hsel (fun _ => ?_) (fun _ => ?_) <;>
    exact tickPhases_line raw p fun _ => OutLine.noConfusion

theorem accessorySettled_tickPhases (hs : AccessorySettled p) (hd : DebounceSettled p) :
    AccessorySettled (tickPhases Config.hardware raw p) := by
  obtain ⟨hcoherent, -⟩ := accessorySettled_iff.mp hs
  refine accessorySettled_iff.mpr ⟨accessoryCoherent_tickPhases hcoherent, fun hlock => ?_⟩
  obtain ⟨-, -, hedge⟩ := debounceSettled_tickPhases (raw := raw) hd hcoherent.phase .accessory
  rw [(tickPhases_accessory raw p).1] at hlock
  have hheld := (accessoryCoherent_afterToggles hcoherent).held_of_lock hlock
  rw [afterToggles_held, ← (tickPhases_debounced Config.hardware raw p).2] at hheld
  exact ⟨hheld, hedge.trans hheld⟩

theorem elapsedBounded_tickPhases (h : AccessoryCoherent p) : ElapsedBounded (tickPhases Config.hardware raw p) := by
  intro hwait hsel
  obtain ⟨hp, hs, he⟩ := tickPhases_accessory raw p
  rw [hp] at hwait
  rw [hs] at hsel
  have hle := (accessoryCoherent_afterToggles h).elapsed_le hwait hsel
  rw [he]
  split_ifs
  · rw [BitVec.toNat_add]; exact (Nat.mod_le _ _).trans (Nat.succ_le_succ hle)
  · omega

end AccessoryAfterTick

/-! ### The indicator and the lights after a tick (R150, R151, R184) -/

section LinesAfterTick

variable {w : Nat} (c : Config) (s : Panel w)

/-- No toggle action requests a blink of the accessory channel. -/
theorem togglePhases_blink_accessory : (togglePhases c s).blink.get .accessory = s.blink.get .accessory := by
  have hlights : (lightsPhase c s).blink.get .accessory = s.blink.get .accessory := by
    rw [lightsPhase_eq]; split_ifs <;> rfl
  have hvalet (t : Panel w) : (valetPhase c t).blink.get .accessory = t.blink.get .accessory := by
    rw [valetPhase_eq]; split_ifs <;> rfl
  have hdoors (t : Panel w) : (doorsPhase c t).blink.get .accessory = t.blink.get .accessory := by
    rw [doorsPhase_eq]; split_ifs <;> rfl
  rw [togglePhases, hdoors, hvalet, hlights]

/-- The accessory phases write no line but the selection LEDs and the accessory relays. -/
theorem accessoryPhases_line {line : OutLine} (h : ∀ k, line ≠ .selLed k ∧ line ≠ .relayAcc k) :
    (accessoryPhases c s).out.get line = s.out.get line := by
  have hedge : (edgePhase c s).out.get line = s.out.get line := by
    rw [edgePhase_eq]
    split_ifs
    · exact selectAction_line c s fun k => (h k).1
    · exact cancelAction_line c s h
    all_goals rfl
  have hrearm (t : Panel w) : (rearmPhase t).out = t.out := by simp
  rw [accessoryPhases, commitPhase_eq, commitAction_line c _ h, hrearm, hedge]

/-- A channel with no count is left by phase 6 (R180). -/
theorem blinkPhase_of_idle (s : Panel Config.hardware.paceBits) {ch : Channel} (h : blinkCount (s.blink.get ch) = 0) :
    (blinkPhase Config.hardware s).blink.get ch = s.blink.get ch ∧
      (blinkPhase Config.hardware s).out.get (.ind ch) = s.out.get (.ind ch) := by
  rw [blinkPhase_eq]
  split_ifs
  · exact rolloverPace_of_not_acts s (decide_eq_false fun ⟨hne, _⟩ => hne h)
  · exact ⟨rfl, rfl⟩

/-- The lights consumer puts the relay where it puts the latch. -/
theorem lightsRelayFollows_lightsPhase {s : Panel w} (h : LightsRelayFollows s) :
    LightsRelayFollows (lightsPhase c s) := by
  rw [lightsPhase_eq]
  split_ifs
  · exact emit_get_self _ _ _
  · exact emit_get_self _ _ _
  · exact h

theorem lightsRelayFollows_of_same {s t : Panel w} (h : LightsRelayFollows s)
    (hline : t.out.get .relayLights = s.out.get .relayLights) (hlatch : t.lightsOn = s.lightsOn) :
    LightsRelayFollows t := by
  rw [LightsRelayFollows, hline, hlatch]; exact h

end LinesAfterTick

section LinesSettled

variable {raw : RawIn} {p : Panel Config.hardware.paceBits}

theorem accessoryIndicatorIdle_tickPhases (h : AccessoryIndicatorIdle p) :
    AccessoryIndicatorIdle (tickPhases Config.hardware raw p) := by
  obtain ⟨hblink, hind⟩ := h
  have hb : (accessoryPhases Config.hardware (afterToggles raw p)).blink.get .accessory = 0 := by
    simp [accessoryPhases, afterToggles, togglePhases_blink_accessory, hblink]
  have hi : (accessoryPhases Config.hardware (afterToggles raw p)).out.get (.ind .accessory) = false := by
    rw [accessoryPhases_line _ _ fun _ => ⟨OutLine.noConfusion, OutLine.noConfusion⟩,
      afterToggles_line raw p OutLine.noConfusion, hind]
  obtain ⟨hkeep, hline⟩ := blinkPhase_of_idle _ (by rw [hb]; rfl)
  rw [AccessoryIndicatorIdle, tickPhases_eq, kick_blink, kick_out, hkeep, hline]
  exact ⟨hb, hi⟩

theorem lightsRelayFollows_tickPhases (h : LightsRelayFollows p) :
    LightsRelayFollows (tickPhases Config.hardware raw p) := by
  have hdebounced : LightsRelayFollows (debouncePhase Config.hardware raw p.beginTick) :=
    lightsRelayFollows_of_same h (by simp) (by simp)
  have htoggled : LightsRelayFollows (afterToggles raw p) :=
    lightsRelayFollows_of_same (lightsRelayFollows_lightsPhase Config.hardware hdebounced)
      (by simp [afterToggles, togglePhases]) (by simp [afterToggles, togglePhases])
  refine lightsRelayFollows_of_same htoggled ?_ (by simp [tickPhases_eq, accessoryPhases])
  rw [tickPhases_line raw p fun _ => OutLine.noConfusion,
    accessoryPhases_line _ _ fun _ => ⟨OutLine.noConfusion, OutLine.noConfusion⟩]

theorem demoRefused_tickPhases (h : DemoRefused p) : DemoRefused (tickPhases Config.hardware raw p) := by
  obtain ⟨hmode, hrefused, -⟩ := tickPhases_keeps Config.hardware raw p
  rw [DemoRefused, hmode, hrefused]
  exact h

theorem paceBounded_tickPhases : PaceBounded (tickPhases Config.hardware raw p) := by
  rw [PaceBounded, (tickPhases_pace Config.hardware raw p).1]
  split_ifs <;> omega

/-- A tick keeps the settled facts. -/
theorem panelSettled_tickPhases (h : PanelSettled p) : PanelSettled (tickPhases Config.hardware raw p) := by
  obtain ⟨hcoherent, -⟩ := accessorySettled_iff.mp h.accessory
  exact
    { debounce := debounceSettled_tickPhases h.debounce hcoherent.phase
      accessory := accessorySettled_tickPhases h.accessory h.debounce
      elapsed := elapsedBounded_tickPhases hcoherent
      pace := paceBounded_tickPhases
      indicator := accessoryIndicatorIdle_tickPhases h.indicator
      lights := lightsRelayFollows_tickPhases h.lights
      demo := demoRefused_tickPhases h.demo }

end LinesSettled

end Sys2Proof.Machine

namespace Sys2Proof.Machine

open Sys2Proof.Safety

/-! ### Steps of the environment from a settled state (R206) -/

section PortSteps

variable {s t : State}

/-- The request fetched from a queue of port words, or chosen freely, is a tick or a boot. -/
theorem fetch_port (h : PortsOnly s) : ∃ raw, (fetch s).1 = tickRequest raw ∨ (fetch s).1 = bootRequest raw := by
  cases hq : s.stimulus with
  | nil =>
    rw [fetch_nil hq, envRequest]
    refine ⟨(Config.envChoice s.envCount).2, ?_⟩
    split_ifs
    · exact .inr rfl
    · exact .inl rfl
  | cons r rest =>
    rw [fetch_cons hq]
    exact h r (hq ▸ List.mem_cons_self)

/-- A fetch leaves only port words queued. -/
theorem portsOnly_fetch (h : PortsOnly s) : PortsOnly (fetch s).2 := by
  cases hq : s.stimulus with
  | nil =>
    rw [fetch_nil hq]
    exact h
  | cons r rest =>
    rw [fetch_cons hq]
    exact fun x hx => h x (hq ▸ List.mem_cons_of_mem r hx)

/-- What a fetched port word decodes to. -/
theorem decode_port (h : PortsOnly s) :
    ∃ raw, decode (fetch s).1.format (fetch s).1.word = .op (.tick raw) ∨
      decode (fetch s).1.format (fetch s).1.word = .op (if raw.getLsbD 1 then .bootMain raw else .bootDemo raw) := by
  obtain ⟨raw, hf | hf⟩ := fetch_port h <;> rw [hf]
  · exact ⟨raw, .inl (decode_tickRequest raw)⟩
  · exact ⟨raw, .inr (decode_bootRequest raw)⟩

/-- Both boot operations boot with their sample. -/
theorem exec_boot (raw : RawIn) (s : State) :
    exec (if raw.getLsbD 1 then .bootMain raw else .bootDemo raw) s = .next (s.boot raw) := by
  cases raw.getLsbD 1 <;> rfl

/-- A step of the environment is a tick of an unmarked state, or a boot. -/
theorem step_port_cases (h : PortsOnly s) (hstep : step s = .next t) :
    ∃ raw, s.refused = none ∧ exec (.tick raw) (fetch s).2 = .next t ∨ t = (fetch s).2.boot raw := by
  obtain ⟨raw, hd | hd⟩ := decode_port h <;> refine ⟨raw, ?_⟩ <;>
    obtain ⟨-, ⟨i, hi, hexec⟩ | ⟨hn, -⟩⟩ := step_cases hstep
  · cases hd.symm.trans hi
    have hmark := (exec_tick_cases hexec).1
    rw [fetch_toPanel] at hmark
    exact .inl ⟨hmark, hexec⟩
  · cases hd.symm.trans hn
  · cases hd.symm.trans hi
    rw [exec_boot] at hexec
    exact .inr (Host.Outcome.next.inj hexec).symm
  · cases hd.symm.trans hn

/-- A settled panel in MAIN mode is ready for a tick. -/
theorem ready_of_settled (h : PanelSettled s.toPanel) (hmode : s.mode = .main) : Ready s := by
  obtain ⟨-, -, -, -, hphase⟩ := h.accessory
  have hmark := h.demo
  rw [DemoRefused, if_neg (by rw [hmode]; exact Mode.noConfusion)] at hmark
  exact ⟨hmark, hmode, hphase⟩

/-- An unmarked settled panel is in MAIN mode. -/
theorem mode_of_settled (h : PanelSettled s.toPanel) (hmark : s.refused = none) : s.mode = .main := by
  have hdemo := h.demo
  cases hm : s.mode with
  | main => rfl
  | demo =>
    rw [DemoRefused, hm, if_pos rfl, hmark] at hdemo
    cases hdemo

theorem panelSettled_of_settled (h : Settled s) : PanelSettled s.toPanel := (settled_iff.mp h).2

theorem settled_tickState (raw : RawIn) (h : Settled s) : Settled (tickState raw s) := by
  obtain ⟨hports, hpanel⟩ := settled_iff.mp h
  exact settled_iff.mpr ⟨hports, panelSettled_tickPhases hpanel⟩

theorem settled_boot (raw : RawIn) (h : PortsOnly s) : Settled (s.boot raw) :=
  settled_iff.mpr ⟨h, panelSettled_boot raw⟩

theorem settled_fetch (h : Settled s) : Settled (fetch s).2 := by
  obtain ⟨hports, hpanel⟩ := settled_iff.mp h
  exact settled_iff.mpr ⟨portsOnly_fetch hports, by rwa [fetch_toPanel]⟩

end PortSteps

/-- Settles O56: a step of the environment is a tick, which keeps each of the facts, or a boot, which starts with
them. -/
theorem stepKeepsSettled : Obligations.StepKeepsSettled := by
  unfold Obligations.StepKeepsSettled
  intro s t hs hstep
  have hfetch := settled_fetch hs
  have hpanel := panelSettled_of_settled hfetch
  obtain ⟨raw, ⟨hmark, hexec⟩ | rfl⟩ := step_port_cases hs.ports hstep
  · have hmark' : (fetch s).2.refused = none := by rwa [fetch_toPanel]
    have hready := ready_of_settled hpanel (mode_of_settled hpanel hmark')
    cases (exec_tick_of_ready hready).symm.trans hexec
    exact settled_tickState raw hfetch
  · exact settled_boot raw hfetch.ports

/-- Settles O57: the fetched port word is a tick, which completes in a ready state, or a boot. -/
theorem settledStepsComplete : Obligations.SettledStepsComplete := by
  unfold Obligations.SettledStepsComplete
  intro s hs hmode
  have hready := ready_of_settled (panelSettled_of_settled (settled_fetch hs)) (by rwa [fetch_toPanel])
  have hhalt : haltedBy (fetch s).2 (fetch s).1 = none := haltedBy_of_not_refused hready.1
  obtain ⟨raw, hd | hd⟩ := decode_port hs.ports <;> rw [step_of_op hhalt hd]
  · exact ⟨_, exec_tick_of_ready hready⟩
  · exact ⟨_, exec_boot raw _⟩

/-- In a settled panel an accessory relay is on only in JUST, and it is the selected one. -/
theorem relay_of_settled {s : State} (h : PanelSettled s.toPanel) (k : Pick) :
    s.out.get (.relayAcc k) = decide (s.cphase = phaseJust ∧ k.code = s.sel) := by
  obtain ⟨-, hjust, hoff, -, -⟩ := h.accessory
  by_cases hp : s.cphase = phaseJust
  · rw [(hjust hp).2 k, decide_eq_decide]; exact (and_iff_right hp).symm
  · rw [hoff hp k, decide_eq_false fun h => hp h.1]

/-- Settles O58: the state after the step is settled, and there a relay that is on is the selected one. -/
theorem atMostOneRelay : Obligations.AtMostOneRelay := by
  unfold Obligations.AtMostOneRelay
  intro s t hs hstep
  have ht := panelSettled_of_settled (stepKeepsSettled s t hs hstep)
  have hsel (k : Pick) (hk : t.out.get (.relayAcc k) = true) : k.code = t.sel := by
    rw [relay_of_settled ht, decide_eq_true_iff] at hk
    exact hk.2
  exact ⟨fun j k hj hk => Pick.code_injective ((hsel j hj).trans (hsel k hk).symm), fun k hk => (hsel k hk).symm⟩

/-- The vector that selects `ACC_EDGE_LOCKED` is an edge in LOCK (R123). -/
theorem edge_in_lock_of_selected {w : Nat} {s : Panel w} (h : decode .gAe (vecAe s) = .op .accEdgeLocked) :
    rise s .accessory = true ∧ s.cphase = phaseLock := by
  rw [vecAe] at h
  generalize rise s .accessory = r, s.cphase = p at h ⊢
  revert r p; decide

/-- Settles O59: in LOCK the button was held, so it has no edge; and only doors keeps its edge memory at a release. -/
theorem unreachableSelections : Obligations.UnreachableSelections := by
  unfold Obligations.UnreachableSelections
  intro raw s hs
  constructor
  · intro hselected
    obtain ⟨hrise, hphase⟩ := edge_in_lock_of_selected hselected
    rw [rise_togglePhases] at hrise
    have hlocked : s.cphase = phaseLock := by simpa [togglePhases] using hphase
    obtain ⟨-, -, hedge⟩ := hs.debounce .accessory
    obtain ⟨hlock, -⟩ := hs.accessory
    obtain ⟨-, hheld, -⟩ := hlock hlocked
    have hno := rise_debounced_of_held (raw := raw) (s := s.toPanel.beginTick) Channel.noConfusion hedge hheld
    exact Bool.false_ne_true (hno.symm.trans hrise)
  · intro ch hfall
    obtain ⟨-, -, hedge⟩ := hs.debounce ch
    exact doors_of_fall_debounced (s := s.toPanel.beginTick) hedge hfall

/-! ### The accessory machine along a run (spec/41_accessory.md sections 4 and 5) -/

section AccessoryRuns

variable {raw : RawIn} {s : State} {ws : List RawIn}

/-- The tick sees no accessory edge (R120, R130). -/
def NoEdge (raw : RawIn) (s : State) : Prop :=
  rise (debouncePhase Config.hardware raw s.toPanel.beginTick) .accessory = false

theorem noEdge_of_released (h : PanelSettled s.toPanel) (hraw : pressed raw .accessory = false) : NoEdge raw s := by
  obtain ⟨-, -, hedge⟩ := h.debounce .accessory
  exact rise_debounced_of_released (s := s.toPanel.beginTick) hedge hraw

theorem afterToggles_rise_eq_false (hno : NoEdge raw s) : rise (afterToggles raw s.toPanel) .accessory = false :=
  (afterToggles_rise raw s.toPanel).trans hno

theorem afterToggles_rise_eq_true (hrise : ¬ NoEdge raw s) : rise (afterToggles raw s.toPanel) .accessory = true :=
  (afterToggles_rise raw s.toPanel).trans (Bool.not_eq_false _ ▸ hrise)

/-- Without an edge and out of LOCK the accessory machine only commits. -/
theorem accessoryPhases_of_noEdge (hno : NoEdge raw s) (hp : s.cphase ≠ phaseLock) :
    accessoryPhases Config.hardware (afterToggles raw s.toPanel) =
      commitAction Config.hardware (afterToggles raw s.toPanel) := by
  have hrise := afterToggles_rise_eq_false hno
  obtain ⟨hp', -⟩ := afterToggles_keeps raw s.toPanel
  rw [← hp'] at hp
  generalize afterToggles raw s.toPanel = q at hrise hp
  rw [accessoryPhases_of_not_rise hrise, rearmAction_of_not (.inl hp)]

/-- A committed selection stays committed through a tick without an edge. -/
theorem tickState_just (hno : NoEdge raw s) (hp : s.cphase = phaseJust) :
    (tickState raw s).cphase = phaseJust ∧ (tickState raw s).sel = s.sel := by
  obtain ⟨hphase, hsel, -⟩ := tickPhases_accessory raw s.toPanel
  obtain ⟨hp', hs', -, -⟩ := afterToggles_keeps raw s.toPanel
  rw [accessoryPhases_of_noEdge hno (by rw [hp]; decide),
    commitAction_of_not_due (.inl (by rw [hp', hp]; decide))] at hphase hsel
  exact ⟨hphase.trans (hp'.trans hp), hsel.trans hs'⟩

/-- A selection that waits, through a tick without an edge: it commits where it has waited long enough. -/
theorem tickState_wait {k : Pick} (hno : NoEdge raw s) (hp : s.cphase = phaseWait) (hk : s.sel = k.code) :
    (tickState raw s).cphase = (if 10 < s.elapsed.toNat then phaseJust else phaseWait) ∧
      (tickState raw s).sel = k.code := by
  obtain ⟨hphase, hsel, -⟩ := tickPhases_accessory raw s.toPanel
  obtain ⟨hp', hs', he', -⟩ := afterToggles_keeps raw s.toPanel
  rw [accessoryPhases_of_noEdge hno (by rw [hp]; decide)] at hphase hsel
  by_cases hdue : 10 < s.elapsed.toNat
  · rw [commitAction_of_due (hp'.trans hp) (hs'.trans hk) (by rwa [commitLevel_lt, he'])] at hphase hsel
    rw [commitOutputs_cphase] at hphase
    rw [commitOutputs_sel] at hsel
    rw [if_pos hdue]
    exact ⟨hphase, hsel.trans (hs'.trans hk)⟩
  · rw [commitAction_of_not_due (.inr (.inr (by rwa [commitLevel_lt, he'])))] at hphase hsel
    rw [if_neg hdue]
    exact ⟨hphase.trans (hp'.trans hp), hsel.trans (hs'.trans hk)⟩

/-- Nothing selected stays so through a tick without an edge. -/
theorem tickState_idle (hno : NoEdge raw s) (hp : s.cphase = phaseWait) (hsel : s.sel = 0) :
    (tickState raw s).cphase = phaseWait ∧ (tickState raw s).sel = 0 := by
  obtain ⟨hphase, hs, -⟩ := tickPhases_accessory raw s.toPanel
  obtain ⟨hp', hs', -, -⟩ := afterToggles_keeps raw s.toPanel
  rw [accessoryPhases_of_noEdge hno (by rw [hp]; decide),
    commitAction_of_not_due (.inr (.inl (hs'.trans hsel)))] at hphase hs
  exact ⟨hphase.trans (hp'.trans hp), hs.trans (hs'.trans hsel)⟩

/-- An edge in WAIT selects (R121). -/
theorem tickState_select (hrise : ¬ NoEdge raw s) (hp : s.cphase = phaseWait) :
    (tickState raw s).cphase = phaseWait ∧ (tickState raw s).sel = s.sel + 1 := by
  obtain ⟨hphase, hs, -⟩ := tickPhases_accessory raw s.toPanel
  obtain ⟨hp', hs', -, -⟩ := afterToggles_keeps raw s.toPanel
  have hedge := afterToggles_rise_eq_true hrise
  rw [accessoryPhases_of_rise hedge, edgePhase_eq, if_pos hedge, if_pos (hp'.trans hp)] at hphase hs
  rw [selectAction_cphase] at hphase
  rw [selectAction_sel, hs'] at hs
  exact ⟨hphase.trans (hp'.trans hp), hs⟩

/-- The waiting time after a tick without a commit: one rollover more where the pace is due. -/
theorem tickState_elapsed (hno : NoEdge raw s) (hp : s.cphase = phaseWait)
    (hle : s.elapsed.toNat ≤ 10) (hpace : PaceBounded s.toPanel) :
    (tickState raw s).elapsed.toNat =
      s.elapsed.toNat + (s.pace.toNat + 1) / (Config.hardware.paceLimit + 1) := by
  obtain ⟨-, -, helapsed⟩ := tickPhases_accessory raw s.toPanel
  obtain ⟨-, -, he', -⟩ := afterToggles_keeps raw s.toPanel
  rw [accessoryPhases_of_noEdge hno (by rw [hp]; decide),
    commitAction_of_not_due (.inr (.inr (by rw [commitLevel_lt, he']; exact Nat.not_lt.mpr hle))), he'] at helapsed
  rw [tickState, helapsed, (succ_div_mod_period (p := s.pace.toNat) hpace).2]
  split_ifs
  · rw [BitVec.toNat_add]; exact Nat.mod_eq_of_lt (Nat.lt_of_le_of_lt (Nat.succ_le_succ hle) (by decide))
  · rfl

theorem panelSettled_runTicks (ws : List RawIn) (h : PanelSettled s.toPanel) :
    PanelSettled (runTicks ws s).toPanel := by
  induction ws generalizing s with
  | nil => exact h
  | cons w ws ih => exact ih (panelSettled_tickPhases h)

/-- The statements' premise, tick by tick. -/
theorem noAccessoryEdge_cons (h : Ready s) :
    NoAccessoryEdge (raw :: ws) s ↔ NoEdge raw s ∧ NoAccessoryEdge ws (tickState raw s) := by
  refine and_congr_right fun _ => ⟨fun hall => hall _ (exec_tick_of_ready h), fun hno t ht => ?_⟩
  cases (exec_tick_of_ready h).symm.trans ht
  exact hno

/-- A button that stays released has no edge. -/
theorem noAccessoryEdge_of_released (h : PanelSettled s.toPanel) (hready : Ready s)
    (hws : ∀ w ∈ ws, pressed w .accessory = false) : NoAccessoryEdge ws s := by
  induction ws generalizing s with
  | nil => trivial
  | cons w ws ih =>
    obtain ⟨hw, hws⟩ := List.forall_mem_cons.mp hws
    exact (noAccessoryEdge_cons hready).mpr
      ⟨noEdge_of_released h hw, ih (panelSettled_tickPhases h) (ready_tickState hready) hws⟩

/-- A committed selection stays committed while no edge comes. -/
theorem runTicks_just (hready : Ready s) (hno : NoAccessoryEdge ws s) (hp : s.cphase = phaseJust) :
    (runTicks ws s).cphase = phaseJust ∧ (runTicks ws s).sel = s.sel := by
  induction ws generalizing s with
  | nil => exact ⟨hp, rfl⟩
  | cons w ws ih =>
    obtain ⟨hw, hws⟩ := (noAccessoryEdge_cons hready).mp hno
    obtain ⟨hphase, hsel⟩ := tickState_just hw hp
    obtain ⟨hp', hs'⟩ := ih (ready_tickState hready) hws hphase
    exact ⟨hp', hs'.trans hsel⟩

/-- A waiting selection is committed by the first tick that finds it past 10 rollovers. -/
theorem runTicks_wait {k : Pick} (hready : Ready s) (hpace : PaceBounded s.toPanel) (hno : NoAccessoryEdge ws s)
    (hp : s.cphase = phaseWait) (hk : s.sel = k.code) (hne : ws ≠ []) :
    (runTicks ws s).cphase =
        (if 10 < s.elapsed.toNat + (s.pace.toNat + (ws.length - 1)) / (Config.hardware.paceLimit + 1) then phaseJust
        else phaseWait) ∧
      (runTicks ws s).sel = k.code := by
  induction ws generalizing s with
  | nil => exact absurd rfl hne
  | cons w ws ih =>
    obtain ⟨hw, hws⟩ := (noAccessoryEdge_cons hready).mp hno
    obtain ⟨hphase, hsel⟩ := tickState_wait hw hp hk
    rw [runTicks_cons, List.length_cons, Nat.add_sub_cancel]
    by_cases hdue : 10 < s.elapsed.toNat
    · rw [if_pos hdue] at hphase
      rw [if_pos (Nat.lt_add_right _ hdue)]
      obtain ⟨hp', hs'⟩ := runTicks_just (ready_tickState hready) hws hphase
      exact ⟨hp', hs'.trans hsel⟩
    · rw [if_neg hdue] at hphase
      cases ws with
      | nil =>
        have hnone : s.pace.toNat / (Config.hardware.paceLimit + 1) = 0 := Nat.div_eq_of_lt (Nat.lt_succ_of_le hpace)
        rw [List.length_nil, Nat.add_zero, hnone, Nat.add_zero, if_neg hdue]
        exact ⟨hphase, hsel⟩
      | cons v vs =>
        obtain ⟨hp', hs'⟩ := ih (ready_tickState hready) (paceBounded_tickState w hpace) hws hphase hsel (by simp)
        have hlen : s.pace.toNat + (v :: vs).length = s.pace.toNat + 1 + ((v :: vs).length - 1) := by
          rw [List.length_cons]; omega
        rw [tickState_elapsed hw hp (Nat.not_lt.mp hdue) hpace, (tickState_pace w hpace).1, Nat.add_assoc,
          div_add_div_carry, ← hlen] at hp'
        exact ⟨hp', hs'⟩

end AccessoryRuns

/-- Settles O40: no edge comes while the button is released, so the machine stays in JUST; and there the relays are
those of the selection. -/
theorem committedRelayStays : Obligations.CommittedRelayStays := by
  unfold Obligations.CommittedRelayStays
  intro s ws hs hmode hp hws
  have hpanel := panelSettled_of_settled hs
  have hready := ready_of_settled hpanel hmode
  obtain ⟨hphase, hsel⟩ := runTicks_just hready (noAccessoryEdge_of_released hpanel hready hws) hp
  refine ⟨_, observeTicks_of_ready ws hready, hphase, hsel, fun k => ?_⟩
  rw [relay_of_settled (panelSettled_runTicks ws hpanel), relay_of_settled hpanel, hphase, hsel]
  exact congrArg (fun p => decide (p = phaseJust ∧ k.code = s.sel)) hp.symm

/-- Settles O41: the commit by `runTicks_wait`, the relays since the state it leaves is settled. -/
theorem commitTiming : Obligations.CommitTiming := by
  unfold Obligations.CommitTiming
  intro s k ws hs hmode hp hk hno hne
  have hpanel := panelSettled_of_settled hs
  have hready := ready_of_settled hpanel hmode
  obtain ⟨hphase, hsel⟩ := runTicks_wait hready hpanel.pace hno hp hk hne
  refine ⟨_, observeTicks_of_ready ws hready, hsel, hphase, fun j => ?_⟩
  rw [relay_of_settled (panelSettled_runTicks ws hpanel), hsel, decide_eq_decide]
  exact and_congr_right fun _ => ⟨Pick.code_injective, congrArg Pick.code⟩

/-! ### A button held through a reset (spec/41_accessory.md section 5) -/

section HeldThroughReset

variable {raw : RawIn} {s : State} {ws : List RawIn}

/-- A tick that leaves the accessory level clear saw no edge. -/
theorem noEdge_of_not_held (h : (tickState raw s).held.get .accessory = false) : NoEdge raw s := by
  obtain ⟨-, hheld⟩ := tickPhases_debounced Config.hardware raw s.toPanel
  rw [tickState, hheld] at h
  rw [NoEdge, rise, h, Bool.false_and]

/-- A tick that sets the accessory level saw an edge. -/
theorem edge_of_latched (hedge : s.oldHeld.get .accessory = false)
    (h : (tickState raw s).held.get .accessory = true) : ¬ NoEdge raw s := by
  obtain ⟨-, hheld⟩ := tickPhases_debounced Config.hardware raw s.toPanel
  obtain ⟨-, -, hold⟩ := debouncePhase_hardware raw s.toPanel.beginTick .accessory
  rw [tickState, hheld] at h
  rw [beginTick_oldHeld, hedge] at hold
  have hclear : (debouncePhase Config.hardware raw s.toPanel.beginTick).oldHeld.get .accessory = false := by
    rw [hold, debouncedOld]; split_ifs <;> rfl
  rw [NoEdge, Bool.not_eq_false]
  exact rise_iff.mpr ⟨h, hclear⟩

/-- Fewer than 160 pressed ticks select nothing. -/
theorem runTicks_pressed_idle (hp : s.cphase = phaseWait) (hsel : s.sel = 0)
    (hheld : s.held.get .accessory = decide (160 ≤ (s.cnt.get .accessory).toNat))
    (hlen : (s.cnt.get .accessory).toNat + ws.length < 160) (hws : ∀ w ∈ ws, pressed w .accessory = true) :
    (runTicks ws s).cphase = phaseWait ∧ (runTicks ws s).sel = 0 := by
  induction ws generalizing s with
  | nil => exact ⟨hp, hsel⟩
  | cons w ws ih =>
    obtain ⟨hw, hws⟩ := List.forall_mem_cons.mp hws
    rw [List.length_cons] at hlen
    obtain ⟨hcnt, hlevel⟩ := runTicks_pressed (ws := [w]) (by omega) hheld (List.forall_mem_singleton.mpr hw)
    rw [runTicks_cons, runTicks_nil, List.length_singleton] at hcnt hlevel
    have hclear : (tickState w s).held.get .accessory = false := by rw [hlevel]; exact decide_eq_false (by omega)
    obtain ⟨hp', hs'⟩ := tickState_idle (noEdge_of_not_held hclear) hp hsel
    rw [runTicks_cons]
    exact ih hp' hs' (by rw [hlevel, decide_eq_decide]; omega) (by omega) hws

/-- The accessory channel and machine after a boot. -/
theorem boot_accessory (raw : RawIn) :
    (s.boot raw).cphase = phaseWait ∧ (s.boot raw).sel = 0 ∧ ((s.boot raw).cnt.get .accessory).toNat = 0 ∧
      (s.boot raw).held.get .accessory = false := by
  cases h : raw.getLsbD 1 with
  | true => rw [boot_main h]; exact ⟨rfl, rfl, rfl, rfl⟩
  | false => rw [boot_demo h]; exact ⟨rfl, rfl, rfl, rfl⟩

end HeldThroughReset

/-- Settles O60: the first 159 pressed ticks see no edge, the 160th does and selects; the lines are those of the settled
state it leaves. -/
theorem heldThroughResetSelectsPick1 : Obligations.HeldThroughResetSelectsPick1 := by
  unfold Obligations.HeldThroughResetSelectsPick1
  intro s sample ws hvalet hlen hws
  obtain ⟨hready, -⟩ := boot_main_ready (s := s) hvalet
  obtain ⟨hphase, hsel, hcnt, hheld⟩ := boot_accessory (s := s) sample
  have hpanel : PanelSettled (s.boot sample).toPanel := panelSettled_boot sample
  have hstart : (s.boot sample).held.get .accessory = decide (160 ≤ ((s.boot sample).cnt.get .accessory).toNat) := by
    rw [hheld, hcnt]; rfl
  generalize s.boot sample = b at hready hphase hsel hcnt hstart hpanel
  obtain rfl | ⟨vs, w, rfl⟩ := List.eq_nil_or_concat' ws
  · cases hlen
  have hvs : vs.length = 159 := by simpa using hlen
  have hws' : ∀ x ∈ vs, pressed x .accessory = true := fun x hx => hws x (List.mem_append_left _ hx)
  obtain ⟨hp, hs⟩ := runTicks_pressed_idle hphase hsel hstart (by omega) hws'
  obtain ⟨-, hbefore⟩ := runTicks_pressed (by omega) hstart hws'
  obtain ⟨-, hafter⟩ := runTicks_pressed (by omega) hstart hws
  rw [decide_eq_false (by omega)] at hbefore
  rw [hlen, decide_eq_true (by omega), runTicks_append, runTicks_cons, runTicks_nil] at hafter
  obtain ⟨-, -, hedge⟩ := (panelSettled_runTicks vs hpanel).debounce .accessory
  obtain ⟨hp', hs'⟩ := tickState_select (edge_of_latched (hedge.trans hbefore) hafter) hp
  have hend := panelSettled_runTicks (vs ++ [w]) hpanel
  have hrun := observeTicks_of_ready (vs ++ [w]) hready
  rw [runTicks_append, runTicks_cons, runTicks_nil] at hend hrun
  rw [hs] at hs'
  obtain ⟨-, -, -, hleds, -⟩ := hend.accessory
  refine ⟨_, hrun, hs', hp', ?_, fun k => ?_⟩
  · rw [hleds, hs']; rfl
  · rw [relay_of_settled hend, hp']; rfl

end Sys2Proof.Machine
